-- ==== Sys2Proof/Word.lean ====
section
/-! DEFINITION. The byte and the byte sequence of `00_scope.md` R10: the only word type of this hardware. Every other
quantity is a natural, an integer or a list, as R10 writes them. -/

namespace Sys2Proof

/-- A byte, a value 0 to 255 (R10). -/
abbrev Byte := BitVec 8

/-- A byte sequence; `s[0]` is its first byte (R10). -/
abbrev Bytes := List Byte

end Sys2Proof
end

