-- ==== Sys2Proof/Syntax.lean ====
section
/-! DEFINITION. The items of spec/opcode_table.json, one constructor a row, and the header they carry. -/

namespace Sys2Proof

/-- The eight raw fields of a packet header, in the order of the wire (`30_encoding.md` R86). -/
structure RawHeader where
  /-- 4 bytes, an ASCII tag that nothing validates (R101). -/
  preamble : Bytes
  /-- int32 (R86). -/
  itemNumber : Int
  /-- int32 (R86). -/
  serialNumber : Int
  /-- uint64, 32 pairs of 2 bits (R88). -/
  presence : Nat
  /-- 4 bytes, ignored (R100). -/
  reserved : Bytes
  /-- uint16 (R86). -/
  frameCount : Nat
  /-- uint16 (R86). -/
  bytesPerFrame : Nat
  /-- int32 (R86). -/
  frameCounter : Int
  deriving DecidableEq, Repr, Inhabited

/-- The decoded view HDR: the raw fields and the two derived values (`10_state.md` R28). -/
structure Header extends RawHeader where
  /-- The number of pairs equal to `01`, 0 to 32 (R89). -/
  channelCount : Nat
  /-- `frame_count × bytes_per_frame`, unbounded naturals (R90). -/
  payloadSize : Nat
  deriving DecidableEq, Repr, Inhabited

/-- The classes of a reply (`30_encoding.md` R83 to R85). -/
inductive Reply where
  /-- Success, with the parameter text (R83). -/
  | ok (payload : Bytes)
  /-- The remainder is the UnknownCommand literal (R84). -/
  | unknown
  /-- The remainder is the WrongParameter literal (R84). -/
  | wrong
  /-- Everything else (R85). -/
  | malformed
  deriving DecidableEq, Repr

/-- One constructor per row of spec/opcode_table.json. The first nine are the operations of the request port
(`30_encoding.md` R108), `reservedOp` is the row of the unassigned codes, `acquire` the pseudo-operation (R111), and the
last six are the wire formats CMD, RESP and PKT (R80). -/
inductive Instr where
  /-- ENC(name), OP 0 (R120). -/
  | enc (name : Bytes)
  /-- DECR(raw, sent), OP 1 (R125). -/
  | decr (raw sent : Bytes)
  /-- DECH(h), OP 2 (R132). -/
  | dech (h : Bytes)
  /-- CONNECT_C(host, port, timeout), OP 3 (R150); the operands are opaque (R109). -/
  | connectC (host port timeout : Bytes)
  /-- SEND(cmd), OP 4 (R154). -/
  | send (cmd : Bytes)
  /-- DISCONNECT_C(), OP 5 (R160). -/
  | disconnectC
  /-- CONNECT_D(host, port, timeout), OP 6 (R170); the operands are opaque (R109). -/
  | connectD (host port timeout : Bytes)
  /-- PULL(requested_count, channels), OP 7 (R174). -/
  | pull (count : Nat) (channels : List Nat)
  /-- DISCONNECT_D(), OP 8 (R189). -/
  | disconnectD
  /-- An unassigned OP code, 9 to 15 (R108). -/
  | reservedOp (op : Nat)
  /-- ACQUIRE(sampling_cmd, requested_count, channels), no OP code (R210). -/
  | acquire (sampling : Option Bytes) (count : Nat) (channels : List Nat)
  /-- One command frame, block to instrument, text channel (R81). -/
  | cmdFrame (text : Bytes)
  /-- A success reply to `sent`, instrument to block, text channel (R83); `trailer` is its run of CR and LF. -/
  | respOk (sent payload trailer : Bytes)
  /-- A reply of the UnknownCommand form (R84). -/
  | respUnknown (sent trailer : Bytes)
  /-- A reply of the WrongParameter form (R84). -/
  | respWrong (sent trailer : Bytes)
  /-- Any other byte sequence taken as a reply to `sent` (R85). -/
  | respMalformed (sent raw : Bytes)
  /-- One packet, instrument to block, binary channel (R86, R91). -/
  | pkt (header : RawHeader) (payload : Bytes)
  deriving DecidableEq, Repr

end Sys2Proof
end

