-- ==== Sys2Proof/Config.lean ====
section
/-! DEFINITION. The constants of `00_scope.md` R8, the parameters of R9, the answers the transports may give, and the
free values: opaque constants, about whose values nothing can be proved. -/

namespace Sys2Proof

namespace Config

/-- HDR_LEN (R8). -/
def hdrLen : Nat := 32
/-- SAMPLE_BYTES (R8). -/
def sampleBytes : Nat := 4
/-- PRESENCE_BYTES (R8). -/
def presenceBytes : Nat := 8
/-- PAIR_BITS (R8). -/
def pairBits : Nat := 2
/-- MAX_SLOTS (R8). -/
def maxSlots : Nat := 32

end Config

/-- PAIR_RESERVED_POLICY (R9, R89). -/
inductive PairPolicy where
  /-- A header with a pair `10` or `11` is refused: the default (D8). -/
  | refuse
  /-- Such a pair is not counted, and nothing else happens. -/
  | count01
  deriving DecidableEq, Repr

/-- The parameters of R9, which are fixed for the life of a model instance (R32). They stand in State so that a statement
about every state is a statement about every choice of them (log 5). -/
structure Params where
  /-- SB_CAP; `none` is unbounded (R23). -/
  sbCap : Option Nat
  /-- CHUNK_MAX, at least 1. -/
  chunkMax : Nat
  /-- CMD_READ_MAX, at least 1; `none` is unbounded. -/
  cmdReadMax : Option Nat
  /-- SETTLE_INTERVAL; timing only, read by no rule (R279). -/
  settleInterval : Nat
  /-- READ_TIMEOUT; belongs to the transport, read by no rule. -/
  readTimeout : Nat
  /-- CONNECT_TIMEOUT; belongs to the transport, read by no rule. -/
  connectTimeout : Nat
  /-- ERR_LITERAL_WITH_SENTINEL (R84, R129). -/
  errLiteralWithSentinel : Bool
  /-- PAIR_RESERVED_POLICY (R89, R180). -/
  pairReservedPolicy : PairPolicy
  deriving DecidableEq, Repr

/-- The ranges R9 gives the parameters. -/
abbrev Params.wf (p : Params) : Prop := 1 ≤ p.chunkMax ∧ p.cmdReadMax ≠ some 0

/-- The parameters after reset: the defaults of D4, D8 and D12; the other values are the model's (log 5, DESIGN CHOICE). -/
def Params.initial : Params where
  sbCap := none
  chunkMax := 4096
  cmdReadMax := none
  settleInterval := 0
  readTimeout := 0
  connectTimeout := 0
  errLiteralWithSentinel := true
  pairReservedPolicy := .refuse

/-- An answer of Connect (R247) or TxC (R250). The cause is opaque (R231, log 11). -/
inductive DoneAnswer where
  | done
  | fail (cause : Bytes)
  deriving DecidableEq, Repr, Inhabited

/-- What the oracle decides at one call of RxAvailC (R249): the bytes that have arrived since the last call, or a failure. -/
inductive TextAnswer where
  | bytes (fresh : Bytes)
  | fail (cause : Bytes)
  deriving DecidableEq, Repr, Inhabited

/-- What the oracle decides at one call of RxD (R249): bytes arrive and the read returns at most `most` of those that are
there ("may return fewer bytes than asked"), or it times out, finds the end of the stream, or fails. -/
inductive ReadChoice where
  | arrive (fresh : Bytes) (most : Nat)
  | timeout
  | eof
  | fail (cause : Bytes)
  deriving DecidableEq, Repr, Inhabited

/-- The four answers of RxD to the block (R13, R249). -/
inductive ChunkAnswer where
  | chunk (bs : Bytes)
  | timeout
  | eof
  | fail (cause : Bytes)
  deriving DecidableEq, Repr

namespace Config

/-- Free answer of Connect where no answer is laid down (log 3). -/
opaque freeConnect : Nat → DoneAnswer
/-- Free answer of TxC (log 3). -/
opaque freeTx : Nat → DoneAnswer
/-- Free answer of RxAvailC (log 3). -/
opaque freeText : Nat → TextAnswer
/-- Free decision at a call of RxD (log 3). -/
opaque freeChunk : Nat → ReadChoice
/-- How many bytes of a frame a failed TxC has handed over: R250 does not say (log 12). -/
opaque freeSent : Nat → Nat
/-- SB after IncompletePacket: unspecified (R24, U5, log 8). -/
opaque freeSb : Nat → Bytes
/-- CMD outside an exchange: unspecified (R30, U6, log 7). -/
opaque freeCmd : Nat → Bytes
/-- REQ outside a PULL: unspecified (U6, log 7). -/
opaque freeReq : Nat → Nat
/-- CHSEL outside a PULL: unspecified (U6, log 7). -/
opaque freeChsel : Nat → List Nat
/-- FLAT outside a PULL: unspecified (U6, log 7). -/
opaque freeFlat : Nat → Bool
/-- HDR outside HDR_CHECK to DROP of one packet, and after CONNECT_D: unspecified (R28, R37, U6, log 7). -/
opaque freeHdr : Nat → Header
/-- OUT after a PULL that ended in an error: any value (U7, log 7). -/
opaque freeOut : Nat → List (List Int)

end Config

end Sys2Proof
end

