-- ==== Sys2Proof/Machine/Operands.lean ====
section
/-! DEFINITION. The operand forms and field computations of the spec, as functions of bytes and naturals alone: the codec's
text functions (`00_scope.md` R15), little-endian assembly (R11), the presence field (`30_encoding.md` R88, R89), the
header decoder and its inverse (`40_wire_codec.md` R132, R138), the reply classes (R125 to R130), and the addresses of a
packet's samples (`20_memory.md` R60). -/

namespace Sys2Proof.Machine

/-! ## Bytes and text (R15); the codes are ASCII (G2, log 16, PRESUMED) -/

/-- The byte `$`. -/
def sentinel : Byte := 0x24
/-- The byte CR. -/
def cr : Byte := 0x0D
/-- The byte LF. -/
def lf : Byte := 0x0A

/-- Membership in CRLF_SET (R15). -/
def isCrlf (b : Byte) : Bool := b == cr || b == lf

/-- `remove_crlf` (R15): every CR and LF deleted, wherever it stands. -/
def removeCrlf (s : Bytes) : Bytes := s.filter fun b => !isCrlf b

/-- `rstrip_crlf` (R15, R126): the longest run of CR and LF at the end removed. -/
def rstripCrlf : Bytes → Bytes
  | [] => []
  | b :: bs =>
    match rstripCrlf bs with
    | [] => if isCrlf b then [] else [b]
    | c :: cs => b :: c :: cs

/-- The run that `rstripCrlf` removes. -/
def trailerOf (s : Bytes) : Bytes := s.drop (rstripCrlf s).length

/-- `starts_with` (R15). -/
def startsWith (s p : Bytes) : Bool := decide (p.length ≤ s.length) && s.take p.length == p

/-- `ends_with` (R15). -/
def endsWith (s q : Bytes) : Bool := decide (q.length ≤ s.length) && s.drop (s.length - q.length) == q

/-- `s[a:b]` (R10). -/
def slice (s : Bytes) (a b : Nat) : Bytes := (s.drop a).take (b - a)

/-- The CMD format of R81: sentinel, text without CR and LF, CR, LF. -/
def frameCommand (name : Bytes) : Bytes := sentinel :: removeCrlf name ++ [cr, lf]

/-- `OK`. -/
def litOk : Bytes := [0x4F, 0x4B]

/-- `UNKNOWN COMMAND`. -/
def textUnknown : Bytes :=
  [0x55, 0x4E, 0x4B, 0x4E, 0x4F, 0x57, 0x4E, 0x20, 0x43, 0x4F, 0x4D, 0x4D, 0x41, 0x4E, 0x44]

/-- `WRONG PARAMETER`. -/
def textWrong : Bytes :=
  [0x57, 0x52, 0x4F, 0x4E, 0x47, 0x20, 0x50, 0x41, 0x52, 0x41, 0x4D, 0x45, 0x54, 0x45, 0x52]

/-- The sentinel of a failure literal, under ERR_LITERAL_WITH_SENTINEL (R84, D12). -/
def litLead (lit : Bool) : Bytes := if lit then [sentinel] else []

/-- LIT_UNKNOWN (R125). -/
def litUnknown (lit : Bool) : Bytes := litLead lit ++ textUnknown

/-- LIT_WRONG (R125). -/
def litWrong (lit : Bool) : Bytes := litLead lit ++ textWrong

/-- Steps 2 to 5 of DECR on a reply whose trailing CR and LF are gone (R127 to R130). -/
def classifyStripped (lit : Bool) (r sent : Bytes) : Reply :=
  if startsWith r (sentinel :: sent) then
    let rem := r.drop (sent.length + 1)
    if endsWith rem litOk then .ok (rem.take (rem.length - 2))
    else if rem == litUnknown lit then .unknown
    else if rem == litWrong lit then .wrong
    else .malformed
  else .malformed

/-- The classification of a reply by DECR (R125): strip, then the tests in their fixed order (R239). -/
def classify (lit : Bool) (raw sent : Bytes) : Reply := classifyStripped lit (rstripCrlf raw) sent

/-- A success reply on the wire (R83). -/
def okReply (sent payload trailer : Bytes) : Bytes := sentinel :: sent ++ payload ++ litOk ++ trailer

/-- A reply of the UnknownCommand form on the wire (R84). -/
def unknownReply (lit : Bool) (sent trailer : Bytes) : Bytes := sentinel :: sent ++ litUnknown lit ++ trailer

/-- A reply of the WrongParameter form on the wire (R84). -/
def wrongReply (lit : Bool) (sent trailer : Bytes) : Bytes := sentinel :: sent ++ litWrong lit ++ trailer

/-! ## Little-endian fields (R11, R50) -/

/-- `s[i]` as a natural. The default stands outside the sequence, where no rule reads (R11: `o + width ≤ |s|`). -/
def byteAt (s : Bytes) (i : Nat) : Nat := (s.getD i 0).toNat

/-- `le16u` (R11). -/
def le16u (s : Bytes) (o : Nat) : Nat := byteAt s o + 256 * byteAt s (o + 1)

/-- `le32u` (R11). -/
def le32u (s : Bytes) (o : Nat) : Nat :=
  byteAt s o + 2 ^ 8 * byteAt s (o + 1) + 2 ^ 16 * byteAt s (o + 2) + 2 ^ 24 * byteAt s (o + 3)

/-- `sext_32` (R11): two's complement (G1, log 16, PRESUMED). -/
def sext32 (v : Nat) : Int := if v < 2 ^ 31 then (v : Int) else (v : Int) - 2 ^ 32

/-- `le32s` (R11). -/
def le32s (s : Bytes) (o : Nat) : Int := sext32 (le32u s o)

/-- `le64u` (R11). -/
def le64u (s : Bytes) (o : Nat) : Nat :=
  byteAt s o + 2 ^ 8 * byteAt s (o + 1) + 2 ^ 16 * byteAt s (o + 2) + 2 ^ 24 * byteAt s (o + 3)
    + 2 ^ 32 * byteAt s (o + 4) + 2 ^ 40 * byteAt s (o + 5) + 2 ^ 48 * byteAt s (o + 6)
    + 2 ^ 56 * byteAt s (o + 7)

/-- The little-endian representation of `v` in `n` bytes, `v` taken modulo `256 ^ n` (R138). -/
def leBytes : Nat → Nat → Bytes
  | 0, _ => []
  | n + 1, v => BitVec.ofNat 8 v :: leBytes n (v / 256)

/-- `le32` of an integer, taken modulo 2^32 (R138). -/
def le32Bytes (v : Int) : Bytes := leBytes 4 (v % 2 ^ 32).toNat

/-! ## The presence field (R88, R89; UNVERIFIED against hardware, D7, D8, R278, log 14) -/

/-- `v[hi:lo]` (R10). -/
def bits (v hi lo : Nat) : Nat := (v >>> lo) &&& (2 ^ (hi - lo + 1) - 1)

/-- `pair(i) = presence[2i+1 : 2i]` (R88). -/
def pair (presence i : Nat) : Nat := bits presence (2 * i + 1) (2 * i)

/-- `channel_count` (R89): the number of pairs equal to `01`. -/
def channelCountOf (presence : Nat) : Nat :=
  (List.range Config.maxSlots).countP fun i => pair presence i == 1

/-- Some pair is `10` or `11` (R89, R180). -/
def hasReservedPair (presence : Nat) : Bool :=
  (List.range Config.maxSlots).any fun i => decide (2 ≤ pair presence i)

/-! ## The header (R86, R132, R138) -/

/-- The eight raw fields of R86. -/
def decodeRaw (h : Bytes) : RawHeader where
  preamble := slice h 0 4
  itemNumber := le32s h 4
  serialNumber := le32s h 8
  presence := le64u h 12
  reserved := slice h 20 24
  frameCount := le16u h 24
  bytesPerFrame := le16u h 26
  frameCounter := le32s h 28

/-- The two derived values added (R89, R90). -/
def deriveHeader (r : RawHeader) : Header where
  toRawHeader := r
  channelCount := channelCountOf r.presence
  payloadSize := r.frameCount * r.bytesPerFrame

/-- The body of DECH on at least 32 bytes (R132); it reads no byte past the first 32 (R135). -/
def decodeHeader (h : Bytes) : Header := deriveHeader (decodeRaw h)

/-- `MkHeader` (R138). -/
def mkHeader (r : RawHeader) : Bytes :=
  r.preamble ++ le32Bytes r.itemNumber ++ le32Bytes r.serialNumber ++ leBytes 8 r.presence ++ r.reserved
    ++ leBytes 2 r.frameCount ++ leBytes 2 r.bytesPerFrame ++ le32Bytes r.frameCounter

/-- `packet_len` (R92). -/
def packetLen (h : Header) : Nat := Config.hdrLen + h.payloadSize

/-! ## Addresses and projection (R60, R185) -/

/-- `MemRead(addr, n)` is defined (R12). -/
def memReadable (sb : Bytes) (addr n : Nat) : Bool := decide (addr + n ≤ sb.length)

/-- `MemRead(addr, n)` (R12). -/
def memRead (sb : Bytes) (addr n : Nat) : Bytes := slice sb addr (addr + n)

/-- `FA(k)`, the address of frame `k` (R60). -/
def frameAddr (bytesPerFrame k : Nat) : Nat := Config.hdrLen + k * bytesPerFrame

/-- The address of the sample of channel index `c` of frame `k` (R60). -/
def sampleAddr (bytesPerFrame k c : Nat) : Nat := frameAddr bytesPerFrame k + Config.sampleBytes * c

/-- The tuple `T_k` of R185: the samples of frame `k` in the caller's channel order. -/
def projectFrame (sb : Bytes) (bytesPerFrame : Nat) (chsel : List Nat) (k : Nat) : List Int :=
  chsel.map fun c => le32s sb (sampleAddr bytesPerFrame k c)

/-- The tuples `T_0 … T_{n-1}` of R185, in that order. -/
def projectFrames (sb : Bytes) (bytesPerFrame : Nat) (chsel : List Nat) (n : Nat) : List (List Int) :=
  (List.range n).map (projectFrame sb bytesPerFrame chsel)

/-- Every sample read of those tuples is defined. -/
def framesReadable (sb : Bytes) (bytesPerFrame : Nat) (chsel : List Nat) (n : Nat) : Bool :=
  (List.range n).all fun k => chsel.all fun c => memReadable sb (sampleAddr bytesPerFrame k c) Config.sampleBytes

/-- `max(channels)` (R181); 0 for the empty list, which acceptance refuses (R109, log 18). -/
def maxChannel (chsel : List Nat) : Nat := chsel.foldr max 0

end Sys2Proof.Machine
end

