-- ==== Sys2Proof/WellFormed.lean ====
section
/-! DEFINITION. Which items are well formed: the operand domains of `30_encoding.md` R109 and the shapes of the wire
formats R81 to R86. `lit` is ERR_LITERAL_WITH_SENTINEL. -/

namespace Sys2Proof

/-- The range of an int32 (R28). -/
def isInt32 (v : Int) : Bool := decide (-2 ^ 31 ≤ v) && decide (v < 2 ^ 31)

/-- The ranges R28 gives the raw fields. -/
def RawHeader.wf (r : RawHeader) : Bool :=
  r.preamble.length == 4 && isInt32 r.itemNumber && isInt32 r.serialNumber && decide (r.presence < 2 ^ 64)
    && r.reserved.length == 4 && decide (r.frameCount < 2 ^ 16) && decide (r.bytesPerFrame < 2 ^ 16)
    && isInt32 r.frameCounter

/-- A channel list is non-empty and duplicate-free (R109). -/
def channelsWf (chs : List Nat) : Bool := !chs.isEmpty && decide chs.Nodup

/-- Well-formed items. -/
def Instr.wf (lit : Bool) : Instr → Bool
  | .enc _ => true
  | .decr _ _ => true
  | .dech _ => true
  | .connectC _ _ _ => true
  | .send _ => true
  | .disconnectC => true
  | .connectD _ _ _ => true
  | .pull _ chs => channelsWf chs
  | .disconnectD => true
  | .reservedOp op => decide (9 ≤ op) && decide (op ≤ 15)
  | .acquire _ _ chs => channelsWf chs
  | .cmdFrame text => text.all fun b => !Machine.isCrlf b
  | .respOk _ _ trailer => trailer.all Machine.isCrlf
  | .respUnknown _ trailer => trailer.all Machine.isCrlf
  | .respWrong _ trailer => trailer.all Machine.isCrlf
  | .respMalformed sent raw => Machine.classify lit raw sent == .malformed
  | .pkt r payload => r.wf && payload.length == r.frameCount * r.bytesPerFrame

end Sys2Proof
end

