-- ==== Sys2Proof/Decode.lean ====
section
/-! DEFINITION. The decoder of the items presented to the machine, total on any bytes, and after it the encoder.

The spec gives the operation code (4 bits, `30_encoding.md` R108) and the wire formats CMD, RESP and PKT byte by byte
(R81 to R86). It says that operands arrive whole (R10, R40) and gives them no bits. Their layout, and the high half of the
first byte, which says at which port an item stands, are the model's own (log 1, DESIGN CHOICE):

  first byte = 16 × port + code
  port 0   the request port; code = OP; then the operands in the order of R108
  port 1   the driver's pseudo-operation ACQUIRE (R210), code 0
  port 2   text channel, block to instrument: a CMD frame (R81), code 0
  port 3   text channel, instrument to block: the command text it answers, then a RESP (R83 to R85), code 0
  port 4   binary channel, instrument to block: a PKT (R86), code 0

A natural is written in groups of 7 bits, least significant first, the top bit of a byte saying that another follows; a
byte sequence is its length and its bytes; a list of naturals its length and its elements. All zeros are the natural 0 and
the empty sequence. -/

namespace Sys2Proof

/-- Why the decoder rejects a byte sequence. -/
inductive DecodeError where
  /-- There is no byte. -/
  | empty
  /-- An operand, a frame or a packet ends early. -/
  | truncated
  /-- The first byte names no port. -/
  | unknownPort (port : Nat)
  /-- The first byte names a port, but no code of it. -/
  | unknownCode (port code : Nat)
  /-- Not a command frame: no sentinel, or the text does not end in CR LF (R81). -/
  | notACommandFrame
  deriving DecidableEq, Repr

/-- The decoder's answer: an item and the bytes after it, or the reason why there is none. -/
inductive Decoded where
  | instr (i : Instr) (rest : Bytes)
  | reject (e : DecodeError)
  deriving DecidableEq, Repr

/-- A natural. -/
def getNat : Bytes → Option (Nat × Bytes)
  | [] => none
  | b :: bs =>
    if b.toNat < 128 then some (b.toNat, bs)
    else match getNat bs with
      | none => none
      | some (v, rest) => some (b.toNat - 128 + 128 * v, rest)

/-- A byte sequence. -/
def getBytes (bs : Bytes) : Option (Bytes × Bytes) :=
  match getNat bs with
  | none => none
  | some (n, rest) => if n ≤ rest.length then some (rest.take n, rest.drop n) else none

/-- `n` naturals. -/
def getNatsN : Nat → Bytes → Option (List Nat × Bytes)
  | 0, bs => some ([], bs)
  | n + 1, bs =>
    match getNat bs with
    | none => none
    | some (v, rest) =>
      match getNatsN n rest with
      | none => none
      | some (vs, rest') => some (v :: vs, rest')

/-- A list of naturals. -/
def getNats (bs : Bytes) : Option (List Nat × Bytes) :=
  match getNat bs with
  | none => none
  | some (n, rest) => getNatsN n rest

/-- Go on with an operand, or reject a truncated one. -/
def withOperand {α : Type} (o : Option (α × Bytes)) (k : α → Bytes → Decoded) : Decoded :=
  match o with
  | none => .reject .truncated
  | some (v, rest) => k v rest

/-- The request port: OP and the operands of R108. -/
def decodeRequest (op : Nat) (bs : Bytes) : Decoded :=
  match op with
  | 0 => withOperand (getBytes bs) fun name rest => .instr (.enc name) rest
  | 1 => withOperand (getBytes bs) fun raw bs => withOperand (getBytes bs) fun sent rest => .instr (.decr raw sent) rest
  | 2 => withOperand (getBytes bs) fun h rest => .instr (.dech h) rest
  | 3 =>
    withOperand (getBytes bs) fun host bs => withOperand (getBytes bs) fun port bs =>
      withOperand (getBytes bs) fun timeout rest => .instr (.connectC host port timeout) rest
  | 4 => withOperand (getBytes bs) fun cmd rest => .instr (.send cmd) rest
  | 5 => .instr .disconnectC bs
  | 6 =>
    withOperand (getBytes bs) fun host bs => withOperand (getBytes bs) fun port bs =>
      withOperand (getBytes bs) fun timeout rest => .instr (.connectD host port timeout) rest
  | 7 =>
    withOperand (getNat bs) fun count bs => withOperand (getNats bs) fun chs rest => .instr (.pull count chs) rest
  | 8 => .instr .disconnectD bs
  | n => .instr (.reservedOp n) bs

/-- The pseudo-operation: a natural, 0 for no command and anything else for one, then the operands of R210. -/
def decodeAcquire (bs : Bytes) : Decoded :=
  withOperand (getNat bs) fun present bs =>
    if present = 0 then
      withOperand (getNat bs) fun count bs => withOperand (getNats bs) fun chs rest => .instr (.acquire none count chs) rest
    else
      withOperand (getBytes bs) fun cmd bs => withOperand (getNat bs) fun count bs =>
        withOperand (getNats bs) fun chs rest => .instr (.acquire (some cmd) count chs) rest

/-- A command frame (R81): the first CR LF is its end. -/
def decodeFrame : Bytes → Decoded
  | [] => .reject .truncated
  | b :: bs =>
    let text := bs.takeWhile fun c => !Machine.isCrlf c
    let after := bs.drop text.length
    if b = Machine.sentinel ∧ after.take 2 = [Machine.cr, Machine.lf] then .instr (.cmdFrame text) (after.drop 2)
    else .reject .notACommandFrame

/-- The row of a reply (R83 to R85). -/
def replyInstr (lit : Bool) (sent raw : Bytes) : Instr :=
  match Machine.classify lit raw sent with
  | .ok payload => .respOk sent payload (Machine.trailerOf raw)
  | .unknown => .respUnknown sent (Machine.trailerOf raw)
  | .wrong => .respWrong sent (Machine.trailerOf raw)
  | .malformed => .respMalformed sent raw

/-- A reply, after the command text it answers. -/
def decodeReply (lit : Bool) (bs : Bytes) : Decoded :=
  withOperand (getBytes bs) fun sent bs => withOperand (getBytes bs) fun raw rest => .instr (replyInstr lit sent raw) rest

/-- A packet (R86, R91, R92): the header gives the length. -/
def decodePacket (bs : Bytes) : Decoded :=
  let h := Machine.decodeHeader bs
  if Config.hdrLen ≤ bs.length ∧ Machine.packetLen h ≤ bs.length then
    .instr (.pkt h.toRawHeader ((bs.drop Config.hdrLen).take h.payloadSize)) (bs.drop (Machine.packetLen h))
  else .reject .truncated

/-- The decoder. -/
def decode (lit : Bool) : Bytes → Decoded
  | [] => .reject .empty
  | b :: bs =>
    let port := b.toNat / 16
    let code := b.toNat % 16
    if port = 0 then decodeRequest code bs
    else if 5 ≤ port then .reject (.unknownPort port)
    else if code ≠ 0 then .reject (.unknownCode port code)
    else if port = 1 then decodeAcquire bs
    else if port = 2 then decodeFrame bs
    else if port = 3 then decodeReply lit bs
    else decodePacket bs

/-! ## The encoder -/

/-- A natural; the fuel is enough when it is at least the natural itself. -/
def putNatFuel : Nat → Nat → Bytes
  | 0, n => [BitVec.ofNat 8 (n % 128)]
  | fuel + 1, n =>
    if n < 128 then [BitVec.ofNat 8 n] else BitVec.ofNat 8 (128 + n % 128) :: putNatFuel fuel (n / 128)

/-- A natural. -/
def putNat (n : Nat) : Bytes := putNatFuel n n

/-- A byte sequence. -/
def putBytes (bs : Bytes) : Bytes := putNat bs.length ++ bs

/-- A list of naturals. -/
def putNats (vs : List Nat) : Bytes := putNat vs.length ++ vs.flatMap putNat

/-- The first byte of an item: its OP code on the request port (R108), or the port of its format. -/
def tagByte : Instr → Byte
  | .enc _ => 0x00
  | .decr _ _ => 0x01
  | .dech _ => 0x02
  | .connectC _ _ _ => 0x03
  | .send _ => 0x04
  | .disconnectC => 0x05
  | .connectD _ _ _ => 0x06
  | .pull _ _ => 0x07
  | .disconnectD => 0x08
  | .reservedOp op => BitVec.ofNat 8 op
  | .acquire _ _ _ => 0x10
  | .cmdFrame _ => 0x20
  | .respOk _ _ _ => 0x30
  | .respUnknown _ _ => 0x30
  | .respWrong _ _ => 0x30
  | .respMalformed _ _ => 0x30
  | .pkt _ _ => 0x40

/-- The bytes of an item on the wire it belongs to (R81 to R86, R91); empty for the rows that are on no wire. -/
def wireBytes (lit : Bool) : Instr → Bytes
  | .cmdFrame text => Machine.frameCommand text
  | .respOk sent payload trailer => Machine.okReply sent payload trailer
  | .respUnknown sent trailer => Machine.unknownReply lit sent trailer
  | .respWrong sent trailer => Machine.wrongReply lit sent trailer
  | .respMalformed _ raw => raw
  | .pkt r payload => Machine.mkHeader r ++ payload
  | .enc _ | .decr _ _ | .dech _ | .connectC _ _ _ | .send _ | .disconnectC | .connectD _ _ _ | .pull _ _
  | .disconnectD | .reservedOp _ | .acquire _ _ _ => []

/-- What follows the first byte. -/
def bodyBytes (lit : Bool) : Instr → Bytes
  | .enc name => putBytes name
  | .decr raw sent => putBytes raw ++ putBytes sent
  | .dech h => putBytes h
  | .connectC host port timeout => putBytes host ++ putBytes port ++ putBytes timeout
  | .send cmd => putBytes cmd
  | .disconnectC => []
  | .connectD host port timeout => putBytes host ++ putBytes port ++ putBytes timeout
  | .pull count chs => putNat count ++ putNats chs
  | .disconnectD => []
  | .reservedOp _ => []
  | .acquire none count chs => putNat 0 ++ putNat count ++ putNats chs
  | .acquire (some cmd) count chs => putNat 1 ++ putBytes cmd ++ putNat count ++ putNats chs
  | .cmdFrame text => wireBytes lit (.cmdFrame text)
  | .respOk sent payload trailer => putBytes sent ++ putBytes (wireBytes lit (.respOk sent payload trailer))
  | .respUnknown sent trailer => putBytes sent ++ putBytes (wireBytes lit (.respUnknown sent trailer))
  | .respWrong sent trailer => putBytes sent ++ putBytes (wireBytes lit (.respWrong sent trailer))
  | .respMalformed sent raw => putBytes sent ++ putBytes (wireBytes lit (.respMalformed sent raw))
  | .pkt r payload => wireBytes lit (.pkt r payload)

/-- The encoder. -/
def encode (lit : Bool) (i : Instr) : Bytes := tagByte i :: bodyBytes lit i

/-! ## Words numbered as spec/opcode_table.json numbers them -/

/-- The bytes of a table word: bit 0 is the least significant bit of the first byte; above `nbits` there are zeros. The row
PKT is the only one whose word is a packet header (256 bits) and no operation code: it is laid at the binary port. -/
def tableBytes (nbits w : Nat) : Bytes :=
  let word := Machine.leBytes ((nbits + 7) / 8) (w % 2 ^ nbits) ++ List.replicate 64 0
  if 256 ≤ nbits then 0x40 :: word else word

/-- The item the decoder reads from a table word, under the default ERR_LITERAL_WITH_SENTINEL. -/
def decodeTableWord (nbits w : Nat) : Option Instr :=
  match decode true (tableBytes nbits w) with
  | .instr i _ => some i
  | .reject _ => none

end Sys2Proof
end

