-- ==== Sys2Proof/Machine/State.lean ====
section
/-! DEFINITION. The state: the thirteen elements of `10_state.md` R20, the parameters of R9, the ports and transports as
plain data, and the counters of the free values; the reasons a step can stop; the state after reset. -/

namespace Sys2Proof.Machine

/-- CS_C and CS_D (R25). -/
inductive Link where
  /-- No transport handle is held. -/
  | down
  /-- A live connected handle is held. -/
  | up
  /-- A transport-level failure occurred on the handle. -/
  | dead
  deriving DecidableEq, Repr

/-- The phase register PH (R27). -/
inductive Phase where
  | idle
  | loop
  | hdrWait
  | hdrCheck
  | payWait
  | extract
  | drop
  deriving DecidableEq, Repr

/-- The two transports (R17, R247). -/
inductive Channel where
  | text
  | binary
  deriving DecidableEq, Repr

/-- The closed enumeration of error kinds (R220). -/
inductive ErrorKind where
  | connectionError
  | malformedResponse
  | unknownCommand
  | wrongParameter
  | headerTooShort
  | channelOutOfRange
  | incompletePacket
  deriving DecidableEq, Repr

/-- An error with the context of R231. -/
inductive Err where
  /-- ConnectionError: the transport's cause, and the command when SEND raised it. -/
  | connection (cause : Bytes) (cmd : Option Bytes)
  /-- MalformedResponse. -/
  | malformed (sent raw : Bytes)
  /-- UnknownCommand. -/
  | unknown (sent raw : Bytes)
  /-- WrongParameter. -/
  | wrong (sent raw : Bytes)
  /-- HeaderTooShort: the number of bytes supplied. -/
  | headerTooShort (have_ : Nat)
  /-- ChannelOutOfRange: `max(CHSEL)`, the packet's channel_count, HDR. -/
  | channelOutOfRange (requested channelCount : Nat) (header : Header)
  /-- IncompletePacket: HDR, `|SB|`, `32 + payload_size`. -/
  | incompletePacket (header : Header) (have_ need : Nat)
  deriving DecidableEq, Repr

/-- The value of a success result (the column "success result" of R108). -/
inductive Value where
  /-- The operations that return nothing. -/
  | none
  /-- ENC, DECR, SEND. -/
  | bytes (bs : Bytes)
  /-- DECH. -/
  | header (h : Header)
  /-- A SampleBatch of tuples (R188, FLAT = 0). -/
  | tuples (batch : List (List Int))
  /-- A SampleBatch of scalars (R188, FLAT = 1). -/
  | scalars (batch : List Int)
  deriving DecidableEq, Repr

/-- What the result port presents (R41). -/
inductive Result where
  | ok (v : Value)
  | err (e : Err)
  deriving DecidableEq, Repr

/-- A call of a port primitive, with what the block hands to it (R13, R42, R247 to R250). -/
inductive PortCall where
  | connect (which : Channel) (host port timeout : Bytes)
  | disconnect (which : Channel)
  | tx (bs : Bytes)
  | rxAvail
  | rxD (n : Nat)
  deriving DecidableEq, Repr

/-- The ports and what lies behind them: no block state (R33, R38), but plain data the step reads (log 2, 3, 4, 10). -/
structure Env where
  /-- The item presented now: the request port (R40). -/
  input : Option Bytes
  /-- The items the host still has to present, oldest first (R264). -/
  agenda : List Bytes
  /-- The results presented so far, oldest first (R41). -/
  results : List Result
  /-- The port primitives called so far, oldest first (R42). -/
  calls : List PortCall
  /-- The answers of the coming calls of Connect (R247). -/
  connectAns : List DoneAnswer
  /-- The answers of the coming calls of TxC (R250). -/
  txAns : List DoneAnswer
  /-- What the oracle decides at the coming calls of RxAvailC (R249). -/
  textAns : List TextAnswer
  /-- What the oracle decides at the coming calls of RxD (R249). -/
  chunkAns : List ReadChoice
  /-- The outgoing byte stream of the text channel: handed over by TxC and not yet taken by the instrument (R35 (3), R250,
  log 12). -/
  textTx : Bytes
  /-- Bytes in the text transport, arrived and not yet read (R33 (a)). -/
  textRx : Bytes
  /-- Bytes in the binary transport, arrived and not yet read (R33 (b)). -/
  binRx : Bytes
  /-- How many free answers have been taken. -/
  oracleTick : Nat
  deriving DecidableEq, Repr

/-- Faults: states in which the spec defines no micro-step. No run from reset reaches one (log 18). -/
inductive Fault where
  /-- Raised by `microStep`: BUSY = 1 and PH = IDLE, so PH selects no micro-step (R27). Safe: the model stops. -/
  | busyWithoutPhase
  /-- Raised by HDR_CHECK and EXTRACT: a MemRead past the end of SB, which R12 does not define. Safe: the model stops. -/
  | sbReadPastEnd
  /-- Raised by DROP: an SBDrop of more than `|SB|` bytes, which R12 does not define. Safe: the model stops. -/
  | sbDropPastEnd
  deriving DecidableEq, Repr

/-- Refusals: the complete list of R236, each safe, as R236 itself says ("errs on the safe side"). -/
inductive Refusal where
  /-- Raised by an arm of `exec` that has no meaning yet. Safe. -/
  | notModelled (mnemonic : String)
  /-- Raised by `accept`: a request while BUSY = 1 (R40). Safe. -/
  | busy
  /-- Raised by RESERVED_OP: OP 9 to 15 (R108). Safe. -/
  | unassignedOp (op : Nat)
  /-- Raised by `step`: the item presented is no item at all (log 1). Safe. -/
  | undecodable (e : DecodeError)
  /-- Raised by CONNECT_x: CS_x is not DOWN (R150, R170). Safe. -/
  | channelNotDown (which : Channel)
  /-- Raised by DISCONNECT_x: CS_x is DOWN (R160, R189). Safe. -/
  | channelDown (which : Channel)
  /-- Raised by SEND and PULL, and by the SEND or PULL of ACQUIRE: CS_x is not UP (R154, R174). Safe. -/
  | channelNotUp (which : Channel)
  /-- Raised by PULL: SBVALID = 0 (R24). Safe. -/
  | sbInvalid
  /-- Raised by PULL: the channel list is empty (R109). Safe. -/
  | emptyChannels
  /-- Raised by PULL: the channel list has a duplicate (R109). Safe. -/
  | duplicateChannels
  /-- Raised by HDR_CHECK: a pair `10` or `11` under the policy `refuse` (R180). Safe. -/
  | reservedPair
  /-- Raised by HDR_CHECK: frame_count > 0 and bytes_per_frame ≠ 4 × channel_count (R184). Safe. -/
  | frameSizeMismatch
  /-- Raised by `sbAppend`: the append would pass a finite SB_CAP (R23). Safe. -/
  | sbOverflow
  deriving DecidableEq, Repr

/-- The StreamBuffer: a byte sequence addressed from its front, the one memory (R12, R21, log 17). -/
abbrev Memory := Bytes

/-- Memory as address and byte pairs: address = offset from the front (R35). -/
def Memory.cells (m : Memory) : List Host.Cell := m.zipIdx.map fun p => (p.2, p.1)

/-- The form of a memory: its length is within SB_CAP (R20, R23). -/
def Memory.wf (cap : Option Nat) (m : Memory) : Bool :=
  match cap with
  | none => true
  | some c => decide (m.length ≤ c)

/-- The whole state. The first thirteen fields are the block's own (R20). -/
structure State where
  /-- SB (R21). -/
  sb : Memory
  /-- SBVALID (R24). -/
  sbValid : Bool
  /-- CS_C (R25). -/
  csC : Link
  /-- CS_D (R25). -/
  csD : Link
  /-- REQ (R26). -/
  req : Nat
  /-- CHSEL (R26). -/
  chsel : List Nat
  /-- EMITTED (R26). -/
  emitted : Nat
  /-- OUT (R29). -/
  out : List (List Int)
  /-- FLAT (R26). -/
  flat : Bool
  /-- PH (R27). -/
  ph : Phase
  /-- HDR (R28). -/
  hdr : Header
  /-- BUSY (R40). -/
  busy : Bool
  /-- CMD (R30). -/
  cmd : Bytes
  /-- The parameters of R9; no step writes them. -/
  params : Params
  /-- The ports and the transports. -/
  env : Env
  /-- How many free values have been taken. -/
  freeTick : Nat
  deriving DecidableEq, Repr

/-- Nothing is presented, nothing has been answered, nothing is laid down (log 21). -/
def Env.initial : Env where
  input := none
  agenda := []
  results := []
  calls := []
  connectAns := []
  txAns := []
  textAns := []
  chunkAns := []
  textTx := []
  textRx := []
  binRx := []
  oracleTick := 0

/-- A header of 32 zero bytes, decoded: HDR after reset (log 6, DESIGN CHOICE). -/
def zeroHeader : Header where
  preamble := [0, 0, 0, 0]
  itemNumber := 0
  serialNumber := 0
  presence := 0
  reserved := [0, 0, 0, 0]
  frameCount := 0
  bytesPerFrame := 0
  frameCounter := 0
  channelCount := 0
  payloadSize := 0

/-- The state after reset (R37, R260): neither channel connected, no operation running. REQ, CHSEL, FLAT, HDR and CMD are
unspecified there; their values are the model's (log 6, DESIGN CHOICE). -/
def State.reset : State where
  sb := []
  sbValid := false
  csC := .down
  csD := .down
  req := 0
  chsel := []
  emitted := 0
  out := []
  flat := false
  ph := .idle
  hdr := zeroHeader
  busy := false
  cmd := []
  params := Params.initial
  env := Env.initial
  freeTick := 0

end Sys2Proof.Machine
end

