-- ==== Sys2Proof/Machine/Flags.lean ====
section
/-! DEFINITION. The flags (`10_state.md` R31) and the phase register: what each is computed from, and the one place where
each is written. The block has no condition codes. -/

namespace Sys2Proof.Machine

/-- FLAT: exactly one channel was requested (R26). -/
def flatOf (chs : List Nat) : Bool := chs.length == 1

/-- `orient` (R188): tuples when FLAT = 0, the tuples' first elements when FLAT = 1. -/
def orient (flat : Bool) (out : List (List Int)) : Value :=
  if flat then .scalars (out.map fun t => t.headD 0) else .tuples out

/-- Writes BUSY (R40). -/
def setBusy (b : Bool) (s : State) : State := { s with busy := b }

/-- Writes CS_C (R25). -/
def setCsC (l : Link) (s : State) : State := { s with csC := l }

/-- Writes CS_D (R25). -/
def setCsD (l : Link) (s : State) : State := { s with csD := l }

/-- Writes SBVALID (R24). -/
def setSbValid (b : Bool) (s : State) : State := { s with sbValid := b }

/-- Writes PH (R27). -/
def setPh (p : Phase) (s : State) : State := { s with ph := p }

end Sys2Proof.Machine
end

