-- ==== Sys2Proof/Machine/Ops.lean ====
section
/-! DEFINITION. The operations every meaning is built from: the state elements' writers, acceptance and the end of an
operation (R40, R41), raising an error (R232), the unspecified elements (U5 to U7), the StreamBuffer (R12, R21, R23), and
the port primitives (`60_exceptions.md` R247 to R250). -/

namespace Sys2Proof.Machine

/-- What a step answers. -/
abbrev Out := Host.Outcome State Fault Refusal

/-- Go on from a next state. -/
def andThen (o : Out) (k : State → Out) : Out :=
  match o with
  | .next s => k s
  | .fault r => .fault r
  | .refused r => .refused r

/-! ## Writers -/

/-- Writes SB. -/
def setSb (m : Memory) (s : State) : State := { s with sb := m }

/-- Writes CMD (R30). -/
def setCmd (c : Bytes) (s : State) : State := { s with cmd := c }

/-- Writes HDR (R28). -/
def setHdr (h : Header) (s : State) : State := { s with hdr := h }

/-- Writes the ports and transports. -/
def setEnv (e : Env) (s : State) : State := { s with env := e }

/-- Appends tuples to OUT and counts them in EMITTED (R185). -/
def emit (ts : List (List Int)) (s : State) : State :=
  { s with out := s.out ++ ts, emitted := s.emitted + ts.length }

/-- The latches of a PULL at acceptance (R26, R176). -/
def latchPull (count : Nat) (chs : List Nat) (s : State) : State :=
  { s with req := count, chsel := chs, flat := flatOf chs, emitted := 0, out := [] }

/-! ## Unspecified elements: free values (log 7, log 8) -/

/-- CMD holds no meaning outside an exchange (R30). -/
def forgetCmd (s : State) : State := { s with cmd := Config.freeCmd s.freeTick, freeTick := s.freeTick + 1 }

/-- HDR holds no meaning after DROP (R28, R186) and after CONNECT_D (R37). -/
def forgetHdr (s : State) : State := { s with hdr := Config.freeHdr s.freeTick, freeTick := s.freeTick + 1 }

/-- REQ, CHSEL, FLAT and HDR hold no meaning after the PULL that latched them (R26, R28, U6). -/
def forgetPull (s : State) : State :=
  { s with
    req := Config.freeReq s.freeTick
    chsel := Config.freeChsel s.freeTick
    flat := Config.freeFlat s.freeTick
    hdr := Config.freeHdr s.freeTick
    freeTick := s.freeTick + 1 }

/-- OUT is any value after a PULL that ended in an error (U7). -/
def forgetOut (s : State) : State := { s with out := Config.freeOut s.freeTick, freeTick := s.freeTick + 1 }

/-- A byte sequence within SB_CAP. -/
def clip (cap : Option Nat) (bs : Bytes) : Memory :=
  match cap with
  | none => bs
  | some c => bs.take c

/-- SB is unspecified after IncompletePacket (R24, R187, U5); its bound SB_CAP stays (R20). -/
def forgetSb (s : State) : State :=
  { s with sb := clip s.params.sbCap (Config.freeSb s.freeTick), freeTick := s.freeTick + 1 }

/-! ## Acceptance, results, errors -/

/-- Acceptance of a request (R40): only when BUSY = 0; sets BUSY to 1. -/
def accept (s : State) (k : State → Out) : Out := if s.busy then .refused .busy else k (setBusy true s)

/-- Presents one result and sets BUSY to 0 (R40, R41). -/
def present (r : Result) (s : State) : State :=
  setBusy false (setEnv { s.env with results := s.env.results ++ [r] } s)

/-- `finish v` (R14): the operation ends with a success result. -/
def finish (v : Value) (s : State) : State := present (.ok v) s

/-- `raise K(ctx)` (R14, R232), the block's trap entry: after the state writes of the raising rule, PH is set to IDLE, the
result port presents the error, BUSY is set to 0. Nothing is saved and no control goes anywhere. -/
def raise (e : Err) (s : State) : State := present (.err e) (setPh .idle s)

/-- The end of an operation by its result. There is no operation that returns from an error (R234): the next request is
simply accepted. -/
def conclude (r : Result) (s : State) : State :=
  match r with
  | .ok v => finish v s
  | .err e => raise e s

/-- The end of a PULL by a success result (R178, R179, R187): OUT in the orientation FLAT selects. -/
def finishPull (s : State) : State := finish (orient s.flat s.out) (forgetPull (setPh .idle s))

/-- The end of a PULL by an error (R182, R183, R187): the samples gathered are not delivered. -/
def raisePull (e : Err) (s : State) : State := raise e (forgetOut (forgetPull s))

/-- The kind of an error (R220). -/
def Err.kind : Err → ErrorKind
  | .connection _ _ => .connectionError
  | .malformed _ _ => .malformedResponse
  | .unknown _ _ => .unknownCommand
  | .wrong _ _ => .wrongParameter
  | .headerTooShort _ => .headerTooShort
  | .channelOutOfRange _ _ _ => .channelOutOfRange
  | .incompletePacket _ _ _ => .incompletePacket

/-- The code of an error kind (R220); 0 is "no error". -/
def ErrorKind.code : ErrorKind → Nat
  | .connectionError => 1
  | .malformedResponse => 2
  | .unknownCommand => 3
  | .wrongParameter => 4
  | .headerTooShort => 5
  | .channelOutOfRange => 6
  | .incompletePacket => 7

/-- The result DECR gives a classified reply, with the context of R231. -/
def replyResult (reply : Reply) (sent raw : Bytes) : Result :=
  match reply with
  | .ok payload => .ok (.bytes payload)
  | .unknown => .err (.unknown sent raw)
  | .wrong => .err (.wrong sent raw)
  | .malformed => .err (.malformed sent raw)

/-! ## The StreamBuffer (R12, R21) -/

/-- `SBAppend(bs)` (R12); refused past a finite SB_CAP (R23). -/
def sbAppend (bs : Bytes) (s : State) : Out :=
  if Memory.wf s.params.sbCap (s.sb ++ bs) then .next (setSb (s.sb ++ bs) s) else .refused .sbOverflow

/-- `SBDrop(n)` (R12), defined only when `n ≤ |SB|`. -/
def sbDrop (n : Nat) (s : State) : Out :=
  if n ≤ s.sb.length then .next (setSb (s.sb.drop n) s) else .fault .sbDropPastEnd

/-! ## The port primitives (R13)

Each notes the call, takes the oracle's next answer, or a free one where none is laid down (log 3), and gives the answer
with the state after it. -/

/-- Notes a call of a port primitive. -/
def noteCall (c : PortCall) (s : State) : State := setEnv { s.env with calls := s.env.calls ++ [c] } s

/-- `Connect(which, host, port, timeout)` (R247). -/
def callConnect (which : Channel) (host port timeout : Bytes) (s : State) : DoneAnswer × State :=
  let s := noteCall (.connect which host port timeout) s
  match s.env.connectAns with
  | a :: rest => (a, setEnv { s.env with connectAns := rest } s)
  | [] => (Config.freeConnect s.env.oracleTick, setEnv { s.env with oracleTick := s.env.oracleTick + 1 } s)

/-- `Disconnect(which)` (R248): the handle is released, its failure not surfaced; the bytes still in the transport are lost
with it (R160 for the text channel; log 4 for the binary one, DEDUCED). -/
def callDisconnect (which : Channel) (s : State) : State :=
  let s := noteCall (.disconnect which) s
  match which with
  | .text => setEnv { s.env with textRx := [], textTx := [] } s
  | .binary => setEnv { s.env with binRx := [] } s

/-- The oracle's decision at a call of TxC. -/
def nextTx (s : State) : DoneAnswer × State :=
  match s.env.txAns with
  | a :: rest => (a, setEnv { s.env with txAns := rest } s)
  | [] => (Config.freeTx s.env.oracleTick, setEnv { s.env with oracleTick := s.env.oracleTick + 1 } s)

/-- `TxC(bs)` (R250): `Done` after the whole of `bs` has been handed to the transport. After `Fail` a part at the front of
`bs` may have been; how much is open, a free value (log 12). -/
def txC (bs : Bytes) (s : State) : DoneAnswer × State :=
  let p := nextTx (noteCall (.tx bs) s)
  match p.1 with
  | .done => (.done, setEnv { p.2.env with textTx := p.2.env.textTx ++ bs } p.2)
  | .fail cause =>
    (.fail cause,
      setEnv { p.2.env with
        textTx := p.2.env.textTx ++ bs.take (Config.freeSent p.2.env.oracleTick)
        oracleTick := p.2.env.oracleTick + 1 } p.2)

/-- `Settle()` (R13): waits, and changes no state (R156, R279). -/
def settle (s : State) : State := s

/-- The bytes one read of the text channel returns: everything available, up to CMD_READ_MAX (R249). -/
def takeMax (limit : Option Nat) (bs : Bytes) : Bytes :=
  match limit with
  | none => bs
  | some m => bs.take m

/-- The bytes such a read leaves in the transport (R158). -/
def dropMax (limit : Option Nat) (bs : Bytes) : Bytes :=
  match limit with
  | none => []
  | some m => bs.drop m

/-- The oracle's decision at a call of RxAvailC. -/
def nextText (s : State) : TextAnswer × State :=
  match s.env.textAns with
  | a :: rest => (a, setEnv { s.env with textAns := rest } s)
  | [] => (Config.freeText s.env.oracleTick, setEnv { s.env with oracleTick := s.env.oracleTick + 1 } s)

/-- `RxAvailC()` (R249): one opportunistic read of all that is available in the transport. -/
def rxAvailC (s : State) : TextAnswer × State :=
  let p := nextText (noteCall .rxAvail s)
  match p.1 with
  | .fail cause => (.fail cause, p.2)
  | .bytes fresh =>
    let avail := p.2.env.textRx ++ fresh
    (.bytes (takeMax p.2.params.cmdReadMax avail),
      setEnv { p.2.env with textRx := dropMax p.2.params.cmdReadMax avail } p.2)

/-- The oracle's decision at a call of RxD. -/
def nextChunk (s : State) : ReadChoice × State :=
  match s.env.chunkAns with
  | a :: rest => (a, setEnv { s.env with chunkAns := rest } s)
  | [] => (Config.freeChunk s.env.oracleTick, setEnv { s.env with oracleTick := s.env.oracleTick + 1 } s)

/-- `RxD(n)` (R249): a chunk of 1 to `n` of the bytes in the transport, in order, as many as the oracle decides; the others
stay. An answer of zero bytes is EOF (D14). -/
def rxD (n : Nat) (s : State) : ChunkAnswer × State :=
  let p := nextChunk (noteCall (.rxD n) s)
  match p.1 with
  | .timeout => (.timeout, p.2)
  | .eof => (.eof, p.2)
  | .fail cause => (.fail cause, p.2)
  | .arrive fresh most =>
    let avail := p.2.env.binRx ++ fresh
    let got := avail.take (min n most)
    (if got.isEmpty then .eof else .chunk got, setEnv { p.2.env with binRx := avail.drop (min n most) } p.2)

/-- Bytes arrive in the text transport (R33 (a)). -/
def textArrive (bs : Bytes) (s : State) : State := setEnv { s.env with textRx := s.env.textRx ++ bs } s

/-- The instrument takes `bs` off the outgoing text stream, where it stands at the front; where it does not there is nothing
to take (log 12). -/
def textTake (bs : Bytes) (s : State) : State :=
  if startsWith s.env.textTx bs then setEnv { s.env with textTx := s.env.textTx.drop bs.length } s else s

/-- Bytes arrive in the binary transport (R33 (b)). -/
def binArrive (bs : Bytes) (s : State) : State := setEnv { s.env with binRx := s.env.binRx ++ bs } s

/-! ## The input port -/

/-- Takes the item off the port. -/
def clearInput (s : State) : State := setEnv { s.env with input := none } s

/-- The host presents its next item when the port is free and no operation runs (R264); with none left it waits. -/
def presentNext (s : State) : State :=
  match s.env.agenda with
  | [] => s
  | a :: rest => setEnv { s.env with input := some a, agenda := rest } s

end Sys2Proof.Machine
end

