-- ==== Sys2Proof/Machine/CommandChannel.lean ====
section
/-! DEFINITION. The Command Channel (`41_command_channel.md`): CONNECT_C, SEND, DISCONNECT_C. Each runs in one step, its
port calls in the order of its rule (log 9). -/

namespace Sys2Proof.Machine

/-- CONNECT_C after acceptance (R150): the connect, then the drain of R152, whose bytes are discarded. -/
def connectCRun (host port timeout : Bytes) (s : State) : Result × State :=
  let p := callConnect .text host port timeout s
  match p.1 with
  | .fail cause => (.err (.connection cause none), p.2)
  | .done =>
    let q := rxAvailC (setCsC .up p.2)
    match q.1 with
    | .fail cause => (.err (.connection cause none), setCsC .dead q.2)
    | .bytes _ => (.ok .none, q.2)

/-- CONNECT_C(host, port, timeout) (R150). -/
def execConnectC (host port timeout : Bytes) (s : State) : Out :=
  accept s fun s =>
    if s.csC = .down then
      .next (conclude (connectCRun host port timeout s).1 (connectCRun host port timeout s).2)
    else .refused (.channelNotDown .text)

/-- SEND after acceptance (R154, R156): latch, encode, write the frame in one TxC, settle, one RxAvailC, decode against the
text as it was passed (R155). A transport failure makes CS_C DEAD (R157). -/
def sendRun (cmd : Bytes) (s : State) : Result × State :=
  let s := setCmd cmd s
  let p := txC (frameCommand s.cmd) s
  match p.1 with
  | .fail cause => (.err (.connection cause (some p.2.cmd)), setCsC .dead p.2)
  | .done =>
    let q := rxAvailC (settle p.2)
    match q.1 with
    | .fail cause => (.err (.connection cause (some q.2.cmd)), setCsC .dead q.2)
    | .bytes raw =>
      (replyResult (classify q.2.params.errLiteralWithSentinel raw q.2.cmd) q.2.cmd raw, q.2)

/-- SEND(cmd) (R154); CMD holds no meaning after the exchange (R30). -/
def execSend (cmd : Bytes) (s : State) : Out :=
  accept s fun s =>
    if s.csC = .up then .next (conclude (sendRun cmd s).1 (forgetCmd (sendRun cmd s).2))
    else .refused (.channelNotUp .text)

/-- DISCONNECT_C() (R160): from UP or DEAD; always ends `Ok`. -/
def execDisconnectC (s : State) : Out :=
  accept s fun s =>
    if s.csC = .down then .refused (.channelDown .text)
    else .next (finish .none (setCsC .down (callDisconnect .text s)))

end Sys2Proof.Machine
end

