-- ==== Sys2Proof/Machine/StreamReassembler.lean ====
section
/-! DEFINITION. The Stream Reassembler (`42_stream_reassembler.md`): CONNECT_D, PULL with the micro-steps PH selects,
DISCONNECT_D. -/

namespace Sys2Proof.Machine

/-- CONNECT_D after acceptance (R170): SB is created empty; the binary transport is not drained. HDR is unspecified after it
(R37), a free value; that a connect which fails leaves HDR alone is the model's choice (log 7, DESIGN CHOICE). -/
def connectDRun (host port timeout : Bytes) (s : State) : Result × State :=
  let p := callConnect .binary host port timeout s
  match p.1 with
  | .fail cause => (.err (.connection cause none), p.2)
  | .done => (.ok .none, forgetHdr (setPh .idle (setSbValid true (setSb [] (setCsD .up p.2)))))

/-- CONNECT_D(host, port, timeout) (R170). -/
def execConnectD (host port timeout : Bytes) (s : State) : Out :=
  accept s fun s =>
    if s.csD = .down then
      .next (conclude (connectDRun host port timeout s).1 (connectDRun host port timeout s).2)
    else .refused (.channelNotDown .binary)

/-- DISCONNECT_D() (R189): the StreamBuffer is discarded; always ends `Ok`. -/
def execDisconnectD (s : State) : Out :=
  accept s fun s =>
    if s.csD = .down then .refused (.channelDown .binary)
    else .next (finish .none (setPh .idle (setSbValid false (setSb [] (setCsD .down (callDisconnect .binary s))))))

/-- The preconditions of PULL and its acceptance (R174, R176): BUSY stays 1 and PH selects LOOP. SB is not touched. -/
def pullAccept (count : Nat) (chs : List Nat) (s : State) : Out :=
  accept s fun s =>
    if s.csD ≠ .up then .refused (.channelNotUp .binary)
    else if s.sbValid = false then .refused .sbInvalid
    else if chs.isEmpty then .refused .emptyChannels
    else if ¬ chs.Nodup then .refused .duplicateChannels
    else .next (setPh .loop (latchPull count chs s))

/-- PULL(requested_count, channels) (R174): its acceptance; the micro-steps below run it to its result. -/
def execPull (count : Nat) (chs : List Nat) (s : State) : Out := pullAccept count chs s

/-! ## Micro-steps -/

/-- LOOP (R178). -/
def microLoop (s : State) : Out :=
  if s.req ≤ s.emitted then .next (finishPull s) else .next (setPh .hdrWait s)

/-- HDR_WAIT (R179): no read when a header is buffered, else exactly one; a timeout or EOF is the short return, and SB
keeps what it holds (UNVERIFIED against hardware, log 15). -/
def microHdrWait (s : State) : Out :=
  if Config.hdrLen ≤ s.sb.length then .next (setPh .hdrCheck s)
  else
    let p := rxD s.params.chunkMax s
    match p.1 with
    | .chunk bs => sbAppend bs p.2
    | .timeout => .next (finishPull p.2)
    | .eof => .next (finishPull p.2)
    | .fail cause => .next (raisePull (.connection cause none) (setCsD .dead p.2))

/-- The header has a pair `10` or `11`, and the policy is to refuse it (R180; log 14). -/
def pairsRefused (p : Params) (h : Header) : Bool :=
  decide (p.pairReservedPolicy = .refuse) && hasReservedPair h.presence

/-- The stride and the content of a frame disagree in a packet that has frames (R184). -/
def frameSizeWrong (h : Header) : Bool :=
  decide (0 < h.frameCount) && decide (h.bytesPerFrame ≠ Config.sampleBytes * h.channelCount)

/-- The tests of HDR_CHECK on the decoded header, in the order of R239: reserved pairs (R180), ChannelOutOfRange (R181,
R182), frame size (R184). -/
def checkHeader (h : Header) (s : State) : Out :=
  if pairsRefused s.params h then .refused .reservedPair
  else if h.channelCount ≤ maxChannel s.chsel then
    .next (raisePull (.channelOutOfRange (maxChannel s.chsel) h.channelCount h) (setHdr h s))
  else if frameSizeWrong h then .refused .frameSizeMismatch
  else .next (setPh .payWait (setHdr h s))

/-- HDR_CHECK (R181): HDR is decoded from `SB[0:32]`; no read. -/
def microHdrCheck (s : State) : Out :=
  if memReadable s.sb 0 Config.hdrLen then checkHeader (decodeHeader (memRead s.sb 0 Config.hdrLen)) s
  else .fault .sbReadPastEnd

/-- PAY_WAIT (R183): no read when the packet is whole, else exactly one; a timeout or EOF raises IncompletePacket and SB
is unspecified from then on (R24, log 8). -/
def microPayWait (s : State) : Out :=
  if packetLen s.hdr ≤ s.sb.length then .next (setPh .extract s)
  else
    let p := rxD s.params.chunkMax s
    let incomplete := Err.incompletePacket p.2.hdr p.2.sb.length (packetLen p.2.hdr)
    match p.1 with
    | .chunk bs => sbAppend bs p.2
    | .timeout => .next (raisePull incomplete (forgetSb (setSbValid false p.2)))
    | .eof => .next (raisePull incomplete (forgetSb (setSbValid false p.2)))
    | .fail cause => .next (raisePull (.connection cause none) (setCsD .dead p.2))

/-- How many frames of the packet are emitted: `n` of R185. -/
def emitCount (s : State) : Nat := min s.hdr.frameCount (s.req - s.emitted)

/-- EXTRACT (R185): the first `n` frames, projected on CHSEL; SB is not changed. -/
def microExtract (s : State) : Out :=
  if framesReadable s.sb s.hdr.bytesPerFrame s.chsel (emitCount s) then
    .next (setPh .drop (emit (projectFrames s.sb s.hdr.bytesPerFrame s.chsel (emitCount s)) s))
  else .fault .sbReadPastEnd

/-- DROP (R186): the whole packet goes; HDR is invalid from here on. -/
def microDrop (s : State) : Out :=
  andThen (sbDrop (packetLen s.hdr) s) fun s => .next (setPh .loop (forgetHdr s))

/-- The micro-step PH selects (R27). -/
def microStep (s : State) : Out :=
  match s.ph with
  | .idle => .fault .busyWithoutPhase
  | .loop => microLoop s
  | .hdrWait => microHdrWait s
  | .hdrCheck => microHdrCheck s
  | .payWait => microPayWait s
  | .extract => microExtract s
  | .drop => microDrop s

end Sys2Proof.Machine
end

