-- ==== Sys2Proof/Machine/Acquisition.lean ====
section
/-! DEFINITION. The pseudo-operation ACQUIRE (`43_acquisition_contract.md`) and the unassigned operation codes
(`30_encoding.md` R108). -/

namespace Sys2Proof.Machine

/-- The second half of ACQUIRE after its SEND has presented `r`: an error ends it (R212), else the PULL begins (R210). -/
def acquireAfterSend (r : Result) (count : Nat) (chs : List Nat) (s : State) : Out :=
  match r with
  | .err _ => .next s
  | .ok _ => pullAccept count chs s

/-- ACQUIRE(sampling_cmd, requested_count, channels) (R210): the SEND ends before the PULL begins (R211, log 13). -/
def execAcquire (sampling : Option Bytes) (count : Nat) (chs : List Nat) (s : State) : Out :=
  match sampling with
  | none => pullAccept count chs s
  | some cmd =>
    accept s fun s =>
      if s.csC = .up then
        acquireAfterSend (sendRun cmd s).1 count chs (conclude (sendRun cmd s).1 (forgetCmd (sendRun cmd s).2))
      else .refused (.channelNotUp .text)

/-- OP 9 to 15 (R108): unassigned, and refused. While BUSY = 1 R40 refuses the request too, and the spec gives no order; that
it is refused as unassigned then as well is the model's choice (log 19, DESIGN CHOICE). -/
def execReservedOp (op : Nat) (_s : State) : Out := .refused (.unassignedOp op)

end Sys2Proof.Machine
end

