-- ==== Sys2Proof/Machine/WireCodec.lean ====
section
/-! DEFINITION. The Wire Codec (`40_wire_codec.md`): ENC, DECR, DECH. Pure functions of their operands: no port primitive,
no state element but BUSY, whatever CS_C and CS_D are. -/

namespace Sys2Proof.Machine

/-- ENC(name) (R120): never fails. -/
def execEnc (name : Bytes) (s : State) : Out :=
  accept s fun s => .next (finish (.bytes (frameCommand name)) s)

/-- DECR(raw, sent) (R125). -/
def execDecr (raw sent : Bytes) (s : State) : Out :=
  accept s fun s => .next (conclude (replyResult (classify s.params.errLiteralWithSentinel raw sent) sent raw) s)

/-- DECH(h) (R132, R134); it does not write HDR. -/
def execDech (h : Bytes) (s : State) : Out :=
  accept s fun s =>
    if h.length < Config.hdrLen then .next (raise (.headerTooShort h.length) s)
    else .next (finish (.header (decodeHeader h)) s)

end Sys2Proof.Machine
end

