-- ==== Sys2Proof/Machine/WireFormats.lean ====
section
/-! DEFINITION. The rows of the wire formats (`30_encoding.md` R81 to R92) as what happens on the wire: a frame, a reply or
a packet passes between the instrument and a transport (log 12). They are no requests and end with no result; what the
block makes of the bytes is SEND's, DECR's and PULL's meaning. -/

namespace Sys2Proof.Machine

/-- CMD_FRAME(text) (R81): one command frame reaches the instrument, which takes it off the outgoing text stream. Only SEND
writes that stream (R35 (3)), so where the frame is not the next to come nothing passes and nothing changes (log 12,
DESIGN CHOICE). -/
def execCmdFrame (text : Bytes) (s : State) : Out := .next (textTake (frameCommand text) s)

/-- RESP_OK (R83): a success reply arrives in the text transport. -/
def execRespOk (sent payload trailer : Bytes) (s : State) : Out := .next (textArrive (okReply sent payload trailer) s)

/-- RESP_UNKNOWN (R84): an UnknownCommand reply arrives. -/
def execRespUnknown (sent trailer : Bytes) (s : State) : Out :=
  .next (textArrive (unknownReply s.params.errLiteralWithSentinel sent trailer) s)

/-- RESP_WRONG (R84): a WrongParameter reply arrives. -/
def execRespWrong (sent trailer : Bytes) (s : State) : Out :=
  .next (textArrive (wrongReply s.params.errLiteralWithSentinel sent trailer) s)

/-- RESP_MALFORMED (R85): any other bytes arrive where a reply to `sent` was expected. -/
def execRespMalformed (_sent raw : Bytes) (s : State) : Out := .next (textArrive raw s)

/-- PKT (R86, R91): a packet arrives in the binary transport. -/
def execPkt (r : RawHeader) (payload : Bytes) (s : State) : Out := .next (binArrive (mkHeader r ++ payload) s)

end Sys2Proof.Machine
end

