-- ==== Sys2Proof/Machine/Dispatch.lean ====
section
/-! DEFINITION. One arm per row of spec/opcode_table.json. -/

namespace Sys2Proof.Machine

def exec (i : Instr) (s : State) : Host.Outcome State Fault Refusal :=
  match i with
  | .enc name => Sys2Proof.Machine.execEnc name s
  | .decr raw sent => Sys2Proof.Machine.execDecr raw sent s
  | .dech h => Sys2Proof.Machine.execDech h s
  | .connectC host port timeout => Sys2Proof.Machine.execConnectC host port timeout s
  | .send cmd => Sys2Proof.Machine.execSend cmd s
  | .disconnectC => Sys2Proof.Machine.execDisconnectC s
  | .connectD host port timeout => Sys2Proof.Machine.execConnectD host port timeout s
  | .pull count chs => Sys2Proof.Machine.execPull count chs s
  | .disconnectD => Sys2Proof.Machine.execDisconnectD s
  | .reservedOp op => Sys2Proof.Machine.execReservedOp op s
  | .acquire sampling count chs => Sys2Proof.Machine.execAcquire sampling count chs s
  | .cmdFrame text => Sys2Proof.Machine.execCmdFrame text s
  | .respOk sent payload trailer => Sys2Proof.Machine.execRespOk sent payload trailer s
  | .respUnknown sent trailer => Sys2Proof.Machine.execRespUnknown sent trailer s
  | .respWrong sent trailer => Sys2Proof.Machine.execRespWrong sent trailer s
  | .respMalformed sent raw => Sys2Proof.Machine.execRespMalformed sent raw s
  | .pkt header payload => Sys2Proof.Machine.execPkt header payload s

end Sys2Proof.Machine
end

