-- ==== Sys2Proof/Machine/Step.lean ====
section
/-! DEFINITION. One step of the machine. An item on the input port is taken and run; otherwise a running PULL takes the
micro-step PH selects; otherwise the host presents its next item, or the block waits (R261). -/

namespace Sys2Proof.Machine

/-- Decodes the item on the port, takes it off and runs it. -/
def stepItem (bs : Bytes) (s : State) : Host.Outcome State Fault Refusal :=
  match decode s.params.errLiteralWithSentinel bs with
  | .instr i _ => exec i (clearInput s)
  | .reject e => .refused (.undecodable e)

/-- One step. -/
def step (s : State) : Host.Outcome State Fault Refusal :=
  match s.env.input with
  | some bs => stepItem bs s
  | none => if s.busy then microStep s else .next (presentNext s)

/-- `s` with the item of a table word on its input port, where the next step takes it (log 2). -/
def State.withFetchWord (s : State) (nbits w : Nat) : State :=
  { s with env := { s.env with input := some (tableBytes nbits w) } }

end Sys2Proof.Machine
end

