-- ==== Sys2Proof/Safety.lean ====
section
/-! DEFINITION. What a safe state is, in the terms the statements use: the packet at the front of SB, the invariant of the
machine, and the stream of binary bytes still to be consumed. -/

namespace Sys2Proof.Machine

/-- The header at the front of a byte sequence passes the tests of HDR_CHECK for a channel list (R180, R181, R184). -/
structure HeaderFits (p : Params) (chs : List Nat) (h : Header) : Prop where
  /-- No reserved pair, unless the policy counts them (R180). -/
  pairs : p.pairReservedPolicy = .refuse → hasReservedPair h.presence = false
  /-- Every requested channel is in the packet (R181). -/
  channels : maxChannel chs < h.channelCount
  /-- The stride and the content of a frame agree (R184). -/
  frames : 0 < h.frameCount → h.bytesPerFrame = 4 * h.channelCount

/-- The phases in which a PULL still wants a sample (R178). -/
def Phase.wants : Phase → Bool
  | .hdrWait | .hdrCheck | .payWait | .extract => true
  | .idle | .loop | .drop => false

/-- The phases in which HDR is valid (R28). -/
def Phase.hdrValid : Phase → Bool
  | .payWait | .extract | .drop => true
  | .idle | .loop | .hdrWait | .hdrCheck => false

/-- The phases in which the whole packet is buffered (R183, R185, R186). -/
def Phase.whole : Phase → Bool
  | .extract | .drop => true
  | .idle | .loop | .hdrWait | .hdrCheck | .payWait => false

/-- The invariant of the machine: it holds at reset and every step keeps it. -/
structure Consistent (s : State) : Prop where
  /-- The parameters are in the ranges of R9. -/
  params : s.params.wf
  /-- SB is within SB_CAP (R20, R23). -/
  cap : Memory.wf s.params.sbCap s.sb = true
  /-- BUSY stays 1 over step boundaries exactly while a PULL runs (R27, R40). -/
  phase : s.busy = true ↔ s.ph ≠ .idle
  /-- Without a binary connection SB is empty and not valid (R37, R189). -/
  down : s.csD = .down → s.sb = [] ∧ s.sbValid = false
  /-- A PULL runs on a live connection whose SB stands at a header boundary (R174). -/
  live : s.ph ≠ .idle → s.csD = .up ∧ s.sbValid = true
  /-- The latches of a running PULL (R26, R109). -/
  latches : s.ph ≠ .idle → s.chsel ≠ [] ∧ s.chsel.Nodup ∧ s.flat = flatOf s.chsel
  /-- EMITTED counts OUT and never passes REQ (R20, R26). -/
  count : s.ph ≠ .idle → s.emitted = s.out.length ∧ s.emitted ≤ s.req
  /-- Every tuple has one int32 per requested channel (R20, R29). -/
  tuples : s.ph ≠ .idle → ∀ t ∈ s.out, t.length = s.chsel.length ∧ ∀ x ∈ t, isInt32 x = true
  /-- Past LOOP the PULL still wants a sample (R178). -/
  wants : s.ph.wants = true → s.emitted < s.req
  /-- HDR_CHECK has a header to read (R181). -/
  header : s.ph = .hdrCheck → 32 ≤ s.sb.length
  /-- HDR is the decoded header of the packet at the front of SB, and fits (R28, R181). -/
  hdr : s.ph.hdrValid = true →
    32 ≤ s.sb.length ∧ s.hdr = decodeHeader (s.sb.take 32) ∧ HeaderFits s.params s.chsel s.hdr
  /-- EXTRACT and DROP have the whole packet (R185, R186). -/
  whole : s.ph.whole = true → packetLen s.hdr ≤ s.sb.length

/-- The bytes that arrive at the coming reads, by the decisions laid down. -/
def chunkBytes : List ReadChoice → Bytes
  | [] => []
  | .arrive bs _ :: rest => bs ++ chunkBytes rest
  | .timeout :: rest => chunkBytes rest
  | .eof :: rest => chunkBytes rest
  | .fail _ :: rest => chunkBytes rest

/-- SB followed by the binary bytes that are sent and not yet returned by RxD (R191). -/
def pendingStream (s : State) : Bytes := s.sb ++ s.env.binRx ++ chunkBytes s.env.chunkAns

/-- Nothing is presented and nothing is left to present: the host only waits for the running operation. -/
def HostSilent (s : State) : Prop := s.env.input = none ∧ s.env.agenda = []

/-- A whole packet that fits a channel list (R194). -/
def WholePacket (p : Params) (chs : List Nat) (bs : Bytes) : Prop :=
  32 ≤ bs.length ∧ packetLen (decodeHeader bs) = bs.length ∧ HeaderFits p chs (decodeHeader bs)

/-- All frames of a whole packet, projected on a channel list (R185, R194). -/
def packetFrames (chs : List Nat) (bs : Bytes) : List (List Int) :=
  projectFrames bs (decodeHeader bs).bytesPerFrame chs (decodeHeader bs).frameCount

/-- `t` is `s` after the end of its PULL with the result `r` (R187): BUSY = 0, PH = IDLE, one result more. REQ, CHSEL, FLAT
and HDR, and OUT after an error, are unspecified from then on (U6, U7), so nothing is said of them. -/
structure PullEnded (s t : State) (r : Result) : Prop where
  busy : t.busy = false
  ph : t.ph = .idle
  env : t.env = { s.env with results := s.env.results ++ [r] }
  csC : t.csC = s.csC
  cmd : t.cmd = s.cmd
  params : t.params = s.params
  emitted : t.emitted = s.emitted
  out : (∃ v, r = .ok v) → t.out = s.out

/-- The environment after one RxD call whose answer was laid down: the call is noted, the answer is gone, `left` stays in
the transport. -/
def afterRead (s : State) (rest : List ReadChoice) (left : Bytes) : State :=
  { s with
    env := { s.env with
      calls := s.env.calls ++ [.rxD s.params.chunkMax]
      chunkAns := rest
      binRx := left } }

/-- The bytes such a call returns when `fresh` bytes arrive and it returns at most `most`. -/
def readBytes (s : State) (fresh : Bytes) (most : Nat) : Bytes := (s.env.binRx ++ fresh).take (min s.params.chunkMax most)

/-- The bytes it leaves in the transport. -/
def leftBytes (s : State) (fresh : Bytes) (most : Nat) : Bytes := (s.env.binRx ++ fresh).drop (min s.params.chunkMax most)

/-- The decision `a` gives the block no byte: a timeout or an end of the stream, where a read of zero bytes is an end (R249,
D14); `left` stays in the transport. -/
def noBytes (s : State) (a : ReadChoice) (left : Bytes) : Prop :=
  (a = .timeout ∨ a = .eof) ∧ left = s.env.binRx
  ∨ ∃ fresh most, a = .arrive fresh most ∧ readBytes s fresh most = [] ∧ left = leftBytes s fresh most

/-- The decision that bytes arrive and at least one is returned. -/
def isChunk (a : ReadChoice) : Prop := ∃ fresh most, a = .arrive fresh most ∧ fresh ≠ [] ∧ most ≠ 0

/-- The decision that these bytes arrive at a read, which may return that many. -/
def wholeRead (bs : Bytes) : ReadChoice := .arrive bs bs.length

/-- `s` with these answers laid down for the coming reads of the binary channel. -/
def layChunks (answers : List ReadChoice) (s : State) : State :=
  { s with env := { s.env with chunkAns := answers } }

/-- A PULL just accepted (R176), with nothing else going on. -/
structure PullStarts (s : State) : Prop where
  consistent : Consistent s
  busy : s.busy = true
  ph : s.ph = .loop
  emitted : s.emitted = 0
  silent : HostSilent s

/-- The bytes available to a PULL before the first Timeout or EOF, cut into whole packets that fit and a tail (R194): SB
followed by the chunks `cs`, each of 1 to CHUNK_MAX bytes; no finite SB_CAP. -/
structure StreamOf (s : State) (cs : List Bytes) (packets : List Bytes) (tail : Bytes) : Prop where
  chunks : ∀ c ∈ cs, c ≠ [] ∧ c.length ≤ s.params.chunkMax
  unbounded : s.params.sbCap = none
  nothingLeft : s.env.binRx = []
  bytes : s.sb ++ cs.flatten = packets.flatten ++ tail
  packets : ∀ p ∈ packets, WholePacket s.params s.chsel p

/-- Which port primitives an item's meaning may call (R35, R42): the text streams are reached only by CONNECT_C and SEND. RxD is
called by the micro-steps of PULL alone. -/
def mayCall (i : Instr) (c : PortCall) : Bool :=
  match i with
  | .connectC host port timeout => c == .connect .text host port timeout || c == .rxAvail
  | .send cmd | .acquire (some cmd) _ _ => c == .tx (frameCommand cmd) || c == .rxAvail
  | .disconnectC => c == .disconnect .text
  | .connectD host port timeout => c == .connect .binary host port timeout
  | .disconnectD => c == .disconnect .binary
  | .enc _ | .decr _ _ | .dech _ | .pull _ _ | .reservedOp _ | .acquire none _ _ | .cmdFrame _ | .respOk _ _ _
  | .respUnknown _ _ | .respWrong _ _ | .respMalformed _ _ | .pkt _ _ => false

/-- The items that are requests, or make one (ACQUIRE): acceptance is theirs (R40). -/
def isRequest : Instr → Bool
  | .enc _ | .decr _ _ | .dech _ | .connectC _ _ _ | .send _ | .disconnectC | .connectD _ _ _ | .pull _ _
  | .disconnectD | .acquire _ _ _ => true
  | .reservedOp _ | .cmdFrame _ | .respOk _ _ _ | .respUnknown _ _ | .respWrong _ _ | .respMalformed _ _
  | .pkt _ _ => false

end Sys2Proof.Machine
end

