-- ==== Sys2Proof/Certificates/Slice0/Obligations.lean ====
section
/-! DEFINITION. The statements for the provers. Each docstring names the rules of spec/ it formalises; where a clause rests
on the model's own choice or on a decision the spec marks as its own, the docstring says so. -/

open Sys2Proof Sys2Proof.Machine

/-! ## Encoding and the step -/

/-- Decode and encode agree on every well-formed item, whatever bytes follow it. The wire formats are those of R81 to R86;
the layout of requests and the port byte are the model's choice (log 1). -/
def Obligations.EncodedItemsDecode : Prop :=
  ∀ (lit : Bool) (i : Instr) (rest : Bytes), i.wf lit = true → decode lit (encode lit i ++ rest) = .instr i rest

/-- Bytes written out from the spec's tables decode to their rows: OP codes of R108, the frame of V1, the replies of R131,
and the packet P3. The first byte and the lengths are the model's layout (log 1). -/
def Obligations.WrittenOutBytesDecode : Prop :=
  decode true [0x05] = .instr .disconnectC []
  ∧ decode true [0x00, 2, 0x41, 0x42] = .instr (.enc [0x41, 0x42]) []
  ∧ decode true [0x07, 2, 2, 1, 0] = .instr (.pull 2 [1, 0]) []
  ∧ decode true [0x0F] = .instr (.reservedOp 15) []
  ∧ decode true [0x20, 0x24, 0x53, 0x54, 0x53, 0x0D, 0x0A] = .instr (.cmdFrame [0x53, 0x54, 0x53]) []
  ∧ decode true [0x30, 1, 0x41, 5, 0x24, 0x41, 0x7A, 0x4F, 0x4B] = .instr (.respOk [0x41] [0x7A] []) []
  ∧ decode true ([0x40, 0x41, 0x42, 0x43, 0x44, 7, 0, 0, 0, 0xD2, 4, 0, 0, 1, 0, 0, 0, 0, 0, 0, 0, 0, 0, 0, 0, 1, 0, 4, 0,
      0x30, 0, 0, 0, 0x63, 0, 0, 0])
    = .instr (.pkt ⟨[0x41, 0x42, 0x43, 0x44], 7, 1234, 1, [0, 0, 0, 0], 1, 4, 48⟩ [0x63, 0, 0, 0]) []

/-- A step with an item on the input port runs the decoded item on the state with the port free (R40; log 2); bytes that are
no item are refused by name (log 1). -/
def Obligations.StepRunsTheDecodedItem : Prop :=
  ∀ (s : State) (bs : Bytes), s.env.input = some bs →
    (∀ i rest, decode s.params.errLiteralWithSentinel bs = .instr i rest →
      step s = exec i { s with env := { s.env with input := none } })
    ∧ (∀ e, decode s.params.errLiteralWithSentinel bs = .reject e → step s = .refused (.undecodable e))

/-- A step without an item: a running PULL takes the micro-step of PH (R27); an idle block is given the host's next item,
or waits (R261; log 2). -/
def Obligations.StepWithoutItem : Prop :=
  ∀ s : State, s.env.input = none →
    (s.busy = true → step s = microStep s)
    ∧ (∀ a rest, s.busy = false → s.env.agenda = a :: rest →
        step s = .next { s with env := { s.env with input := some a, agenda := rest } })
    ∧ (s.busy = false → s.env.agenda = [] → step s = .next s)

/-! ## The Wire Codec -/

/-- ENC (R120, D10): the frame `$` + text without CR and LF + CR LF is the one result, and nothing else changes. -/
def Obligations.EncAnswersTheFrame : Prop :=
  ∀ (s : State) (name : Bytes), s.busy = false →
    exec (.enc name) s = .next { s with
      env := { s.env with results := s.env.results ++ [.ok (.bytes (0x24 :: removeCrlf name ++ [0x0D, 0x0A]))] } }

/-- The laws of ENC (R122). -/
def Obligations.EncLaws : Prop :=
  (∀ name : Bytes,
    (frameCommand name).length = (removeCrlf name).length + 3
    ∧ (frameCommand name).head? = some 0x24
    ∧ (frameCommand name).drop ((removeCrlf name).length + 1) = [0x0D, 0x0A]
    ∧ (∀ b ∈ (frameCommand name).take ((removeCrlf name).length + 1), b ≠ 0x0D ∧ b ≠ 0x0A)
    ∧ frameCommand (removeCrlf name) = frameCommand name)
  ∧ (∀ a b : Bytes, frameCommand a = frameCommand b ↔ removeCrlf a = removeCrlf b)
  ∧ (∀ (name : Bytes) (b : Byte), b ∈ removeCrlf name ↔ b ∈ name ∧ b ≠ 0x0D ∧ b ≠ 0x0A)

/-- The trailing strip removes the longest run of CR and LF at the end, in any mixture, and nothing else (R15, R126). -/
def Obligations.StripRemovesTheLongestRun : Prop :=
  ∀ raw : Bytes, ∃ run : Bytes, raw = rstripCrlf raw ++ run ∧ (∀ b ∈ run, b = 0x0D ∨ b = 0x0A)
    ∧ ∀ b, (rstripCrlf raw).getLast? = some b → b ≠ 0x0D ∧ b ≠ 0x0A

/-- DECR succeeds with payload `p` exactly on sentinel, echo, `p`, `OK`, and a run of CR and LF (R83, R127, R128). -/
def Obligations.DecrSucceedsExactly : Prop :=
  ∀ (lit : Bool) (raw sent p : Bytes),
    classify lit raw sent = .ok p ↔
      ∃ run : Bytes, (∀ b ∈ run, b = 0x0D ∨ b = 0x0A) ∧ raw = 0x24 :: sent ++ p ++ [0x4F, 0x4B] ++ run

/-- DECR classifies a failure exactly on sentinel, echo, the literal, and a run of CR and LF (R84, R129); the literal has its
own sentinel or not as ERR_LITERAL_WITH_SENTINEL says (D12, the spec's own choice). -/
def Obligations.DecrClassifiesFailuresExactly : Prop :=
  ∀ (lit : Bool) (raw sent : Bytes),
    (classify lit raw sent = .unknown ↔
      ∃ run : Bytes, (∀ b ∈ run, b = 0x0D ∨ b = 0x0A) ∧
        raw = 0x24 :: sent ++ (if lit then [0x24] else []) ++
          [0x55, 0x4E, 0x4B, 0x4E, 0x4F, 0x57, 0x4E, 0x20, 0x43, 0x4F, 0x4D, 0x4D, 0x41, 0x4E, 0x44] ++ run)
    ∧ (classify lit raw sent = .wrong ↔
      ∃ run : Bytes, (∀ b ∈ run, b = 0x0D ∨ b = 0x0A) ∧
        raw = 0x24 :: sent ++ (if lit then [0x24] else []) ++
          [0x57, 0x52, 0x4F, 0x4E, 0x47, 0x20, 0x50, 0x41, 0x52, 0x41, 0x4D, 0x45, 0x54, 0x45, 0x52] ++ run)

/-- DECR (R125): its one result is the class of the reply with the text and the bytes as context (R231, D29); an error sets
PH to IDLE (R232); nothing else changes. -/
def Obligations.DecrAnswersTheClass : Prop :=
  ∀ (s : State) (raw sent : Bytes), s.busy = false →
    (∀ p, classify s.params.errLiteralWithSentinel raw sent = .ok p →
      exec (.decr raw sent) s = .next { s with env := { s.env with results := s.env.results ++ [.ok (.bytes p)] } })
    ∧ (classify s.params.errLiteralWithSentinel raw sent = .unknown →
      exec (.decr raw sent) s = .next { s with
        ph := .idle, env := { s.env with results := s.env.results ++ [.err (.unknown sent raw)] } })
    ∧ (classify s.params.errLiteralWithSentinel raw sent = .wrong →
      exec (.decr raw sent) s = .next { s with
        ph := .idle, env := { s.env with results := s.env.results ++ [.err (.wrong sent raw)] } })
    ∧ (classify s.params.errLiteralWithSentinel raw sent = .malformed →
      exec (.decr raw sent) s = .next { s with
        ph := .idle, env := { s.env with results := s.env.results ++ [.err (.malformed sent raw)] } })

/-- A reply without the sentinel and the exact echo at its front is MalformedResponse, whatever else it carries (R127,
R239). -/
def Obligations.EchoIsTestedFirst : Prop :=
  ∀ (s : State) (raw sent : Bytes), s.busy = false →
    ¬ (0x24 :: sent) <+: rstripCrlf raw →
    exec (.decr raw sent) s = .next { s with
      ph := .idle, env := { s.env with results := s.env.results ++ [.err (.malformed sent raw)] } }

/-- DECH on at least 32 bytes (R132): the ten fields, and nothing else changes; HDR is not written. -/
def Obligations.DechDecodesTheFields : Prop :=
  ∀ (s : State) (h : Bytes), s.busy = false → 32 ≤ h.length →
    exec (.dech h) s = .next { s with
      env := { s.env with results := s.env.results ++ [.ok (.header
        { preamble := h.take 4
          itemNumber := le32s h 4
          serialNumber := le32s h 8
          presence := le64u h 12
          reserved := (h.drop 20).take 4
          frameCount := le16u h 24
          bytesPerFrame := le16u h 26
          frameCounter := le32s h 28
          channelCount := ((List.range 32).filter fun i => le64u h 12 / 4 ^ i % 4 = 1).length
          payloadSize := le16u h 24 * le16u h 26 })] } }

/-- DECH on fewer than 32 bytes, the empty sequence included; no micro-step of a PULL ends in that error (R134). -/
def Obligations.DechTooShort : Prop :=
  (∀ (s : State) (h : Bytes), s.busy = false → h.length < 32 →
    exec (.dech h) s = .next { s with
      ph := .idle, env := { s.env with results := s.env.results ++ [.err (.headerTooShort h.length)] } })
  ∧ (∀ (s t : State) (n : Nat), microStep s = .next t → t.env.results ≠ s.env.results ++ [.err (.headerTooShort n)])

/-- `MkHeader` and DECH are inverse to each other on headers (R138), and DECH reads only the first 32 bytes (R135, D28). -/
def Obligations.HeaderRoundTrip : Prop :=
  (∀ r : RawHeader, r.wf = true → (mkHeader r).length = 32 ∧ (decodeHeader (mkHeader r)).toRawHeader = r)
  ∧ (∀ h : Bytes, 32 ≤ h.length → mkHeader (decodeHeader h).toRawHeader = h.take 32)
  ∧ (∀ h more : Bytes, h.length = 32 → decodeHeader (h ++ more) = decodeHeader h)

/-- Every field a header decodes to is in the range R28 gives it; payload_size never wraps (R90). -/
def Obligations.DecodedFieldsInRange : Prop :=
  ∀ h : Bytes, 32 ≤ h.length →
    (decodeHeader h).toRawHeader.wf = true
    ∧ (decodeHeader h).channelCount ≤ 32
    ∧ (decodeHeader h).payloadSize = (decodeHeader h).frameCount * (decodeHeader h).bytesPerFrame
    ∧ (decodeHeader h).payloadSize ≤ 4294836225

/-- Narrow and wide little-endian reads of the same bytes agree (R50, R53), and the signed read is the unsigned one modulo
2^32, in two's complement (R11, G1). -/
def Obligations.LittleEndianReadsAgree : Prop :=
  ∀ (s : Bytes) (o : Nat),
    le32u s o = le16u s o + 65536 * le16u s (o + 2)
    ∧ le64u s o = le32u s o + 2 ^ 32 * le32u s (o + 4)
    ∧ (le32s s o - (le32u s o : Int)) % 2 ^ 32 = 0
    ∧ -2 ^ 31 ≤ le32s s o ∧ le32s s o < 2 ^ 31

/-- Bit `b` of the presence field is bit `b mod 8` of the byte at offset `12 + b div 8` (R51). -/
def Obligations.PresenceBitsStandInTheirBytes : Prop :=
  ∀ (h : Bytes) (b : Nat), b < 64 → (decodeHeader h).presence.testBit b = (h.getD (12 + b / 8) 0).getLsbD (b % 8)

/-- Where every pair is `00` or `01`, `channel_count` is the number of 1 bits of the whole field (R89); it is never more than
32. The reading of the field is UNVERIFIED (D7, D8, log 14). -/
def Obligations.ChannelCountOfPlainFields : Prop :=
  (∀ p : Nat, channelCountOf p ≤ 32)
  ∧ (∀ p : Nat, p < 2 ^ 64 → hasReservedPair p = false →
      channelCountOf p = ((List.range 64).filter fun b => p.testBit b).length)

/-! ## The Command Channel -/

/-- CONNECT_C (R150, R152): with each answer laid down. The drain is one read whose bytes are discarded; what a finite
CMD_READ_MAX leaves behind stays in the transport (D26). -/
def Obligations.ConnectCAnswers : Prop :=
  ∀ (s : State) (host port timeout : Bytes), s.busy = false → s.csC = .down →
    (∀ cause cs, s.env.connectAns = .fail cause :: cs →
      exec (.connectC host port timeout) s = .next { s with
        ph := .idle
        env := { s.env with
          connectAns := cs
          calls := s.env.calls ++ [.connect .text host port timeout]
          results := s.env.results ++ [.err (.connection cause none)] } })
    ∧ (∀ cs cause ts, s.env.connectAns = .done :: cs → s.env.textAns = .fail cause :: ts →
      exec (.connectC host port timeout) s = .next { s with
        csC := .dead
        ph := .idle
        env := { s.env with
          connectAns := cs
          textAns := ts
          calls := s.env.calls ++ [.connect .text host port timeout, .rxAvail]
          results := s.env.results ++ [.err (.connection cause none)] } })
    ∧ (∀ cs fresh ts, s.env.connectAns = .done :: cs → s.env.textAns = .bytes fresh :: ts →
      exec (.connectC host port timeout) s = .next { s with
        csC := .up
        env := { s.env with
          connectAns := cs
          textAns := ts
          textRx := dropMax s.params.cmdReadMax (s.env.textRx ++ fresh)
          calls := s.env.calls ++ [.connect .text host port timeout, .rxAvail]
          results := s.env.results ++ [.ok .none] } })

/-- SEND (R154, R156, R157): one TxC of the frame, then one RxAvailC, then the result of DECR on what it returned, compared
with the text as passed (R155); a failed write is followed by no read. CMD is unspecified afterwards (R30). After a failed write a
part of the frame may stand in the outgoing stream; how much is free (log 12). -/
def Obligations.SendAnswers : Prop :=
  ∀ (s : State) (cmd : Bytes), s.busy = false → s.csC = .up →
    (∀ cause ds, s.env.txAns = .fail cause :: ds →
      ∃ c k part o, part <+: 0x24 :: removeCrlf cmd ++ [0x0D, 0x0A] ∧ exec (.send cmd) s = .next { s with
        cmd := c, freeTick := k
        csC := .dead
        ph := .idle
        env := { s.env with
          txAns := ds
          textTx := s.env.textTx ++ part
          oracleTick := o
          calls := s.env.calls ++ [.tx (0x24 :: removeCrlf cmd ++ [0x0D, 0x0A])]
          results := s.env.results ++ [.err (.connection cause (some cmd))] } })
    ∧ (∀ ds cause ts, s.env.txAns = .done :: ds → s.env.textAns = .fail cause :: ts →
      ∃ c k, exec (.send cmd) s = .next { s with
        cmd := c, freeTick := k
        csC := .dead
        ph := .idle
        env := { s.env with
          txAns := ds
          textAns := ts
          textTx := s.env.textTx ++ (0x24 :: removeCrlf cmd ++ [0x0D, 0x0A])
          calls := s.env.calls ++ [.tx (0x24 :: removeCrlf cmd ++ [0x0D, 0x0A]), .rxAvail]
          results := s.env.results ++ [.err (.connection cause (some cmd))] } })
    ∧ (∀ ds fresh ts raw, s.env.txAns = .done :: ds → s.env.textAns = .bytes fresh :: ts →
      raw = takeMax s.params.cmdReadMax (s.env.textRx ++ fresh) →
      ∃ c k, exec (.send cmd) s = .next (conclude
        (replyResult (classify s.params.errLiteralWithSentinel raw cmd) cmd raw)
        { s with
          cmd := c, freeTick := k
          env := { s.env with
            txAns := ds
            textAns := ts
            textTx := s.env.textTx ++ (0x24 :: removeCrlf cmd ++ [0x0D, 0x0A])
            textRx := dropMax s.params.cmdReadMax (s.env.textRx ++ fresh)
            calls := s.env.calls ++ [.tx (0x24 :: removeCrlf cmd ++ [0x0D, 0x0A]), .rxAvail] } }))

/-- DISCONNECT_C (R160): from UP or DEAD, always `Ok`; the bytes still in the transport are lost with it. -/
def Obligations.DisconnectCAnswers : Prop :=
  ∀ s : State, s.busy = false → s.csC ≠ .down →
    exec .disconnectC s = .next { s with
      csC := .down
      env := { s.env with
        textRx := []
        textTx := []
        calls := s.env.calls ++ [.disconnect .text]
        results := s.env.results ++ [.ok .none] } }

/-- The Command Channel operations complete whatever the transports answer, with exactly one result (R41), and reach no
element but CS_C and CMD (R161); CMD only by SEND. -/
def Obligations.CommandChannelFrame : Prop :=
  ∀ (s : State) (i : Instr), s.busy = false → s.ph = .idle →
    ((∃ h p t, i = .connectC h p t) ∧ s.csC = .down ∨ (∃ c, i = .send c) ∧ s.csC = .up
      ∨ i = .disconnectC ∧ s.csC ≠ .down) →
    ∃ t r, exec i s = .next t ∧ t.env.results = s.env.results ++ [r]
      ∧ t.busy = false ∧ t.ph = .idle
      ∧ t.sb = s.sb ∧ t.sbValid = s.sbValid ∧ t.csD = s.csD
      ∧ t.req = s.req ∧ t.chsel = s.chsel ∧ t.emitted = s.emitted ∧ t.out = s.out ∧ t.flat = s.flat ∧ t.hdr = s.hdr
      ∧ t.params = s.params
      ∧ t.env.input = s.env.input ∧ t.env.agenda = s.env.agenda
      ∧ t.env.chunkAns = s.env.chunkAns ∧ t.env.binRx = s.env.binRx
      ∧ ((∀ c, i ≠ .send c) → t.cmd = s.cmd)
      ∧ ((∃ c, i = .send c) → t.csC = .up ∨ t.csC = .dead)

/-- A reply that has arrived is what the next SEND decodes: each RESP row gives the result its row names (R83 to R85). The
rows are arrivals in the text transport (log 12); nothing else arrives, and one read takes all. -/
def Obligations.ArrivedRepliesDecode : Prop :=
  ∀ (s : State) (sent payload run raw : Bytes) (ds : List DoneAnswer) (ts : List TextAnswer),
    s.busy = false → s.csC = .up → s.params.cmdReadMax = none → s.env.textRx = [] →
    s.env.txAns = .done :: ds → s.env.textAns = .bytes [] :: ts → (∀ b ∈ run, isCrlf b = true) →
    (∃ u t, exec (.respOk sent payload run) s = .next u ∧ exec (.send sent) u = .next t
      ∧ t.env.results = s.env.results ++ [.ok (.bytes payload)])
    ∧ (∃ u t x, exec (.respUnknown sent run) s = .next u ∧ exec (.send sent) u = .next t
      ∧ t.env.results = s.env.results ++ [.err (.unknown sent x)])
    ∧ (∃ u t x, exec (.respWrong sent run) s = .next u ∧ exec (.send sent) u = .next t
      ∧ t.env.results = s.env.results ++ [.err (.wrong sent x)])
    ∧ (classify s.params.errLiteralWithSentinel raw sent = .malformed →
      ∃ u t, exec (.respMalformed sent raw) s = .next u ∧ exec (.send sent) u = .next t
        ∧ t.env.results = s.env.results ++ [.err (.malformed sent raw)])

/-- Stale bytes in the transport stand in front of the reply; unless they begin with the sentinel, the exchange ends in
MalformedResponse, and CS_C stays UP (R270, R159). -/
def Obligations.StaleBytesSpoilTheReply : Prop :=
  ∀ (s : State) (cmd fresh stale : Bytes) (b : Byte) (ds : List DoneAnswer) (ts : List TextAnswer),
    s.busy = false → s.csC = .up → s.env.textRx = b :: stale → b ≠ 0x24 →
    s.env.txAns = .done :: ds → s.env.textAns = .bytes fresh :: ts →
    ∃ t raw, exec (.send cmd) s = .next t ∧ t.env.results = s.env.results ++ [.err (.malformed cmd raw)] ∧ t.csC = .up

/-! ## Refusals -/

/-- The requests R236 refuses; ACQUIRE's SEND needs a live text channel too (R211). The names and their order are the model's:
where several rows of R236 apply to one request the spec gives no order, and that the channel state is tested before
SBVALID, and SBVALID before the channel list, is log 19 (DESIGN CHOICE). -/
def Obligations.WrongStateIsRefused : Prop :=
  ∀ s : State, s.busy = false →
    (∀ h p t, s.csC ≠ .down → exec (.connectC h p t) s = .refused (.channelNotDown .text))
    ∧ (∀ h p t, s.csD ≠ .down → exec (.connectD h p t) s = .refused (.channelNotDown .binary))
    ∧ (s.csC = .down → exec .disconnectC s = .refused (.channelDown .text))
    ∧ (s.csD = .down → exec .disconnectD s = .refused (.channelDown .binary))
    ∧ (∀ c, s.csC ≠ .up → exec (.send c) s = .refused (.channelNotUp .text))
    ∧ (∀ c n chs, s.csC ≠ .up → exec (.acquire (some c) n chs) s = .refused (.channelNotUp .text))
    ∧ (∀ n chs, s.csD ≠ .up → exec (.pull n chs) s = .refused (.channelNotUp .binary))
    ∧ (∀ n chs, s.csD = .up → s.sbValid = false → exec (.pull n chs) s = .refused .sbInvalid)
    ∧ (∀ n, s.csD = .up → s.sbValid = true → exec (.pull n []) s = .refused .emptyChannels)
    ∧ (∀ n chs, s.csD = .up → s.sbValid = true → chs ≠ [] → ¬ chs.Nodup →
        exec (.pull n chs) s = .refused .duplicateChannels)

/-- A request presented while BUSY = 1 is refused, across both channels (R40); that it is refused under this name whatever else
would refuse it is the model's order (log 19). -/
def Obligations.BusyRefusesEveryRequest : Prop :=
  ∀ (s : State) (i : Instr), s.busy = true → isRequest i = true → exec i s = .refused .busy

/-- OP codes 9 to 15 are refused (R108); under this name while BUSY = 1 too, where the spec gives no order (log 19). -/
def Obligations.UnassignedCodesAreRefused : Prop :=
  ∀ (s : State) (op : Nat), 9 ≤ op → op ≤ 15 → exec (.reservedOp op) s = .refused (.unassignedOp op)

/-! ## The Stream Reassembler -/

/-- CONNECT_D (R170): SB is created empty and valid, and HDR is unspecified (R37), so nothing is said of it; a failed connect
leaves DOWN and touches nothing else, HDR among it (the model's choice, log 7). -/
def Obligations.ConnectDAnswers : Prop :=
  ∀ (s : State) (host port timeout : Bytes), s.busy = false → s.csD = .down →
    (∀ cause cs, s.env.connectAns = .fail cause :: cs →
      exec (.connectD host port timeout) s = .next { s with
        ph := .idle
        env := { s.env with
          connectAns := cs
          calls := s.env.calls ++ [.connect .binary host port timeout]
          results := s.env.results ++ [.err (.connection cause none)] } })
    ∧ (∀ cs, s.env.connectAns = .done :: cs →
      ∃ h k, exec (.connectD host port timeout) s = .next { s with
        hdr := h, freeTick := k
        csD := .up
        sb := []
        sbValid := true
        ph := .idle
        env := { s.env with
          connectAns := cs
          calls := s.env.calls ++ [.connect .binary host port timeout]
          results := s.env.results ++ [.ok .none] } })

/-- DISCONNECT_D (R189): the StreamBuffer is discarded. That the bytes in the binary transport go with the handle is DEDUCED
(log 4). -/
def Obligations.DisconnectDAnswers : Prop :=
  ∀ s : State, s.busy = false → s.csD ≠ .down →
    exec .disconnectD s = .next { s with
      csD := .down
      sb := []
      sbValid := false
      ph := .idle
      env := { s.env with
        binRx := []
        calls := s.env.calls ++ [.disconnect .binary]
        results := s.env.results ++ [.ok .none] } }

/-- PULL is accepted under the preconditions of R174 and latches its operands (R176); SB is not touched, no result yet. -/
def Obligations.PullIsAccepted : Prop :=
  ∀ (s : State) (n : Nat) (chs : List Nat), s.busy = false → s.csD = .up → s.sbValid = true → chs ≠ [] → chs.Nodup →
    exec (.pull n chs) s = .next { s with
      busy := true, ph := .loop, req := n, chsel := chs, flat := decide (chs.length = 1), emitted := 0, out := [] }

/-- LOOP (R178). -/
def Obligations.LoopTests : Prop :=
  ∀ s : State, s.env.input = none → s.busy = true → s.ph = .loop →
    (s.req ≤ s.emitted → ∃ t, step s = .next t
      ∧ PullEnded s t (.ok (if s.flat then .scalars (s.out.map fun x => x.headD 0) else .tuples s.out))
      ∧ t.sb = s.sb ∧ t.sbValid = s.sbValid ∧ t.csD = s.csD)
    ∧ (s.emitted < s.req → step s = .next { s with ph := .hdrWait })

/-- HDR_WAIT (R179): no read when 32 bytes are buffered, else one; a chunk is appended, a timeout or EOF (a chunk of zero
bytes is EOF, D14) is the short return with SB kept, a failure is a ConnectionError. That partial header bytes are kept is
UNVERIFIED (D17, log 15). -/
def Obligations.HeaderWaitReads : Prop :=
  ∀ s : State, s.env.input = none → s.busy = true → s.ph = .hdrWait →
    (32 ≤ s.sb.length → step s = .next { s with ph := .hdrCheck })
    ∧ (∀ fresh most rest, s.sb.length < 32 → s.env.chunkAns = .arrive fresh most :: rest → readBytes s fresh most ≠ [] →
        Memory.wf s.params.sbCap (s.sb ++ readBytes s fresh most) = true →
        step s = .next { afterRead s rest (leftBytes s fresh most) with sb := s.sb ++ readBytes s fresh most })
    ∧ (∀ fresh most rest, s.sb.length < 32 → s.env.chunkAns = .arrive fresh most :: rest → readBytes s fresh most ≠ [] →
        Memory.wf s.params.sbCap (s.sb ++ readBytes s fresh most) = false → step s = .refused .sbOverflow)
    ∧ (∀ a left rest, s.sb.length < 32 → s.env.chunkAns = a :: rest → noBytes s a left →
        ∃ t, step s = .next t ∧ PullEnded (afterRead s rest left) t (.ok (orient s.flat s.out))
          ∧ t.sb = s.sb ∧ t.sbValid = s.sbValid ∧ t.csD = s.csD)
    ∧ (∀ cause rest, s.sb.length < 32 → s.env.chunkAns = .fail cause :: rest →
        ∃ t, step s = .next t ∧ PullEnded (afterRead s rest s.env.binRx) t (.err (.connection cause none))
          ∧ t.sb = s.sb ∧ t.sbValid = s.sbValid ∧ t.csD = .dead)

/-- HDR_CHECK (R180, R181, R182, R184) in the order of R239. ChannelOutOfRange leaves SB as it is. -/
def Obligations.HeaderCheckDecides : Prop :=
  ∀ (s : State) (h : Header), s.env.input = none → s.busy = true → s.ph = .hdrCheck → 32 ≤ s.sb.length →
    h = decodeHeader (s.sb.take 32) →
    (s.params.pairReservedPolicy = .refuse → hasReservedPair h.presence = true → step s = .refused .reservedPair)
    ∧ ((s.params.pairReservedPolicy = .refuse → hasReservedPair h.presence = false) →
        h.channelCount ≤ maxChannel s.chsel →
        ∃ t, step s = .next t ∧ PullEnded s t (.err (.channelOutOfRange (maxChannel s.chsel) h.channelCount h))
          ∧ t.sb = s.sb ∧ t.sbValid = s.sbValid ∧ t.csD = s.csD)
    ∧ ((s.params.pairReservedPolicy = .refuse → hasReservedPair h.presence = false) →
        maxChannel s.chsel < h.channelCount → 0 < h.frameCount → h.bytesPerFrame ≠ 4 * h.channelCount →
        step s = .refused .frameSizeMismatch)
    ∧ (HeaderFits s.params s.chsel h → step s = .next { s with hdr := h, ph := .payWait })

/-- PAY_WAIT (R183): no read when the packet is whole, else one; a timeout or EOF (D14 as above) is IncompletePacket, which
clears SBVALID (D15, D19); SB is unspecified from then on, so nothing is said of it. -/
def Obligations.PayloadWaitReads : Prop :=
  ∀ s : State, s.env.input = none → s.busy = true → s.ph = .payWait →
    (32 + s.hdr.payloadSize ≤ s.sb.length → step s = .next { s with ph := .extract })
    ∧ (∀ fresh most rest, s.sb.length < 32 + s.hdr.payloadSize → s.env.chunkAns = .arrive fresh most :: rest →
        readBytes s fresh most ≠ [] → Memory.wf s.params.sbCap (s.sb ++ readBytes s fresh most) = true →
        step s = .next { afterRead s rest (leftBytes s fresh most) with sb := s.sb ++ readBytes s fresh most })
    ∧ (∀ fresh most rest, s.sb.length < 32 + s.hdr.payloadSize → s.env.chunkAns = .arrive fresh most :: rest →
        readBytes s fresh most ≠ [] → Memory.wf s.params.sbCap (s.sb ++ readBytes s fresh most) = false →
        step s = .refused .sbOverflow)
    ∧ (∀ a left rest, s.sb.length < 32 + s.hdr.payloadSize → s.env.chunkAns = a :: rest → noBytes s a left →
        ∃ t, step s = .next t
          ∧ PullEnded (afterRead s rest left) t
              (.err (.incompletePacket s.hdr s.sb.length (32 + s.hdr.payloadSize)))
          ∧ t.sbValid = false ∧ t.csD = s.csD)
    ∧ (∀ cause rest, s.sb.length < 32 + s.hdr.payloadSize → s.env.chunkAns = .fail cause :: rest →
        ∃ t, step s = .next t ∧ PullEnded (afterRead s rest s.env.binRx) t (.err (.connection cause none))
          ∧ t.sb = s.sb ∧ t.sbValid = s.sbValid ∧ t.csD = .dead)

/-- EXTRACT (R185): the first `min(frame_count, REQ − EMITTED)` frames are appended to OUT in order, each as the int32
samples of the requested channels in the caller's order; SB is not changed. In a consistent state every read is defined. -/
def Obligations.ExtractProjects : Prop :=
  ∀ s : State, Consistent s → s.env.input = none → s.ph = .extract →
    step s = .next { s with
      ph := .drop
      out := s.out ++ (List.range (min s.hdr.frameCount (s.req - s.emitted))).map fun k =>
        s.chsel.map fun c => le32s s.sb (32 + k * s.hdr.bytesPerFrame + 4 * c)
      emitted := s.emitted + min s.hdr.frameCount (s.req - s.emitted) }

/-- DROP (R186): the whole packet goes, the bytes after it move to the front; HDR is invalid from here on. -/
def Obligations.DropRemovesThePacket : Prop :=
  ∀ s : State, s.env.input = none → s.busy = true → s.ph = .drop → 32 + s.hdr.payloadSize ≤ s.sb.length →
    ∃ h k, step s = .next { s with
      sb := s.sb.drop (32 + s.hdr.payloadSize), ph := .loop, hdr := h, freeTick := k }

/-- RxD answers a chunk of 1 to `n` bytes, and the bytes it returns followed by those it leaves are the bytes that were there
followed by those that arrived (R249, R66); it may return fewer than there are, any number from 1 on. RxAvailC returns all
that is there, up to CMD_READ_MAX, in the same order. -/
def Obligations.ReadsAreBoundedAndOrdered : Prop :=
  (∀ (s u : State) (n : Nat) (bs : Bytes), rxD n s = (.chunk bs, u) →
    1 ≤ bs.length ∧ bs.length ≤ n
    ∧ ∃ fresh most, bs ++ u.env.binRx = s.env.binRx ++ fresh ∧ bs.length ≤ most
      ∧ ∀ a rest, s.env.chunkAns = a :: rest → a = .arrive fresh most ∧ u.env.chunkAns = rest)
  ∧ (∀ (s : State) (fresh : Bytes) (n k : Nat) (rest : List ReadChoice), 1 ≤ k → k ≤ n →
    k ≤ (s.env.binRx ++ fresh).length → s.env.chunkAns = .arrive fresh k :: rest →
    ∃ u, rxD n s = (.chunk ((s.env.binRx ++ fresh).take k), u) ∧ u.env.binRx = (s.env.binRx ++ fresh).drop k)
  ∧ (∀ (s u : State) (bs : Bytes), rxAvailC s = (.bytes bs, u) →
    (∀ m, s.params.cmdReadMax = some m → bs.length ≤ m)
    ∧ (u.env.textRx ≠ [] → s.params.cmdReadMax = some bs.length)
    ∧ ∃ fresh, bs ++ u.env.textRx = s.env.textRx ++ fresh
      ∧ ∀ a rest, s.env.textAns = a :: rest → a = .bytes fresh ∧ u.env.textAns = rest)

/-- RxD is called only when the header or the payload is not yet whole, once a micro-step, and a micro-step calls no other
port (R196, R42); an item's meaning calls only the ports that are its own (`mayCall`): TxC is called by SEND alone and
RxAvailC by CONNECT_C and SEND (R35), and no item's meaning calls RxD. -/
def Obligations.ReadsOnlyOnNeed : Prop :=
  (∀ s t : State, microStep s = .next t →
    t.env.calls = s.env.calls
    ∨ (t.env.calls = s.env.calls ++ [.rxD s.params.chunkMax]
      ∧ (s.ph = .hdrWait ∧ s.sb.length < 32 ∨ s.ph = .payWait ∧ s.sb.length < 32 + s.hdr.payloadSize)))
  ∧ (∀ (s t : State) (i : Instr), exec i s = .next t →
    ∃ new, t.env.calls = s.env.calls ++ new ∧ ∀ c ∈ new, mayCall i c = true)

/-- No step overwrites a byte of SB or removes one from the middle or the back: SB stays, grows at the back, loses a whole
packet at the front, or is created and discarded with its connection (R21); after IncompletePacket it is unspecified (R24). -/
def Obligations.BufferChangesOnlyAtItsEnds : Prop :=
  ∀ s t : State, Consistent s → step s = .next t →
    t.sb = s.sb
    ∨ (∃ bs, bs ≠ [] ∧ t.sb = s.sb ++ bs ∧ s.busy = true)
    ∨ (s.ph = .drop ∧ t.sb = s.sb.drop (32 + s.hdr.payloadSize))
    ∨ (t.sb = [] ∧ (s.csD = .down ∨ t.csD = .down))
    ∨ (s.ph = .payWait ∧ t.sbValid = false)

/-- A PULL ends in exactly one of the five ways of R187, with their results and flags. -/
def Obligations.PullEndsInFiveWays : Prop :=
  ∀ s t : State, Consistent s → s.busy = true → microStep s = .next t → t.busy = false →
    t.ph = .idle ∧
    ((s.ph = .loop ∧ s.emitted = s.req ∧ t.env.results = s.env.results ++ [.ok (orient s.flat s.out)]
        ∧ s.out.length = s.req ∧ t.sb = s.sb ∧ t.sbValid = true ∧ t.csD = .up)
    ∨ (s.ph = .hdrWait ∧ s.emitted < s.req ∧ t.env.results = s.env.results ++ [.ok (orient s.flat s.out)]
        ∧ s.out.length < s.req ∧ t.sb = s.sb ∧ t.sb.length < 32 ∧ t.sbValid = true ∧ t.csD = .up)
    ∨ (s.ph = .hdrCheck
        ∧ (∃ m c h, t.env.results = s.env.results ++ [.err (.channelOutOfRange m c h)] ∧ c ≤ m)
        ∧ t.sb = s.sb ∧ t.sbValid = true ∧ t.csD = .up)
    ∨ (s.ph = .payWait
        ∧ (∃ h a n, t.env.results = s.env.results ++ [.err (.incompletePacket h a n)] ∧ a < n)
        ∧ t.sbValid = false ∧ t.csD = .up)
    ∨ ((s.ph = .hdrWait ∨ s.ph = .payWait)
        ∧ (∃ c, t.env.results = s.env.results ++ [.err (.connection c none)])
        ∧ t.sb = s.sb ∧ t.sbValid = s.sbValid ∧ t.csD = .dead))

/-- A PULL of no samples ends at once with the empty batch, makes no read and leaves SB as it is (R177). -/
def Obligations.PullOfNothing : Prop :=
  ∀ (s : State) (chs : List Nat), s.busy = false → s.csD = .up → s.sbValid = true → chs ≠ [] → chs.Nodup →
    s.env.input = none →
    ∃ u t, exec (.pull 0 chs) s = .next u ∧ step u = .next t ∧ t.busy = false
      ∧ t.env.results = s.env.results ++ [.ok (if chs.length = 1 then .scalars [] else .tuples [])]
      ∧ t.env.calls = s.env.calls ∧ t.sb = s.sb

/-- ChannelOutOfRange does not skip the packet: the same PULL on the same header fails again, with the same error and
without a read (R273, R182). -/
def Obligations.OutOfRangeRepeats : Prop :=
  ∀ (s : State) (n : Nat) (chs : List Nat), Consistent s → HostSilent s → s.busy = false → s.csD = .up →
    s.sbValid = true → chs ≠ [] → chs.Nodup → 0 < n → 32 ≤ s.sb.length →
    (s.params.pairReservedPolicy = .refuse → hasReservedPair (decodeHeader s.sb).presence = false) →
    (decodeHeader s.sb).channelCount ≤ maxChannel chs →
    ∃ u t, exec (.pull n chs) s = .next u ∧ core.run 3 u = .next t
      ∧ t.env.results = s.env.results ++
          [.err (.channelOutOfRange (maxChannel chs) (decodeHeader s.sb).channelCount (decodeHeader s.sb))]
      ∧ t.busy = false ∧ t.csD = .up ∧ t.sbValid = true ∧ t.sb = s.sb ∧ t.env.calls = s.env.calls

/-- Every pass through DROP removes at least 32 bytes, and every read that does not end the PULL adds at least one (R195). -/
def Obligations.EveryPassMakesProgress : Prop :=
  ∀ s t : State, Consistent s → s.busy = true → microStep s = .next t → t.busy = true →
    (s.ph = .drop → t.sb.length + 32 ≤ s.sb.length)
    ∧ (t.ph = s.ph → s.sb.length < t.sb.length)

/-! ## Errors, flags and the whole machine -/

/-- The codes of the seven error kinds (R220; the numbers are the spec's own, D3), all different, none of them 0. -/
def Obligations.ErrorCodes : Prop :=
  ErrorKind.code .connectionError = 1 ∧ ErrorKind.code .malformedResponse = 2 ∧ ErrorKind.code .unknownCommand = 3
  ∧ ErrorKind.code .wrongParameter = 4 ∧ ErrorKind.code .headerTooShort = 5 ∧ ErrorKind.code .channelOutOfRange = 6
  ∧ ErrorKind.code .incompletePacket = 7
  ∧ ∀ k : ErrorKind, 1 ≤ k.code ∧ k.code ≤ 7 ∧ ∀ l : ErrorKind, k.code = l.code → k = l

/-- Which operation can end in which kind (R229). ACQUIRE may end in what its SEND can (R210); a PULL ends in its
micro-steps. -/
def Obligations.ErrorKindsPerOperation : Prop :=
  (∀ (s t : State) (i : Instr) (e : Err), exec i s = .next t → t.env.results = s.env.results ++ [.err e] →
    match i with
    | .decr _ _ => e.kind = .malformedResponse ∨ e.kind = .unknownCommand ∨ e.kind = .wrongParameter
    | .dech _ => e.kind = .headerTooShort
    | .connectC _ _ _ | .connectD _ _ _ => e.kind = .connectionError
    | .send _ | .acquire _ _ _ => e.kind = .connectionError ∨ e.kind = .malformedResponse ∨ e.kind = .unknownCommand
        ∨ e.kind = .wrongParameter
    | _ => False)
  ∧ (∀ (s t : State) (e : Err), microStep s = .next t → t.env.results = s.env.results ++ [.err e] →
    e.kind = .connectionError ∨ e.kind = .channelOutOfRange ∨ e.kind = .incompletePacket)

/-- Every operation ends by presenting exactly one result (R41): the eight that run in one step at once, a PULL when its
micro-steps set BUSY to 0, and not before. -/
def Obligations.OneResultPerOperation : Prop :=
  (∀ (s t : State) (i : Instr), exec i s = .next t →
    match i with
    | .pull _ _ => t.busy = true ∧ t.env.results = s.env.results
    | .acquire _ _ _ => t.busy = true ∨ ∃ r, t.env.results = s.env.results ++ [r]
    | .reservedOp _ => False
    | .cmdFrame _ | .respOk _ _ _ | .respUnknown _ _ | .respWrong _ _ | .respMalformed _ _ | .pkt _ _ =>
      t.busy = s.busy ∧ t.env.results = s.env.results
    | _ => t.busy = false ∧ ∃ r, t.env.results = s.env.results ++ [r])
  ∧ (∀ s t : State, s.busy = true → microStep s = .next t →
    (t.busy = true ∧ t.env.results = s.env.results) ∨ (t.busy = false ∧ ∃ r, t.env.results = s.env.results ++ [r]))

/-- The two sticky conditions are cleared only by DISCONNECT_x, and SBVALID set again only by CONNECT_D (R235, R234). -/
def Obligations.StickyConditions : Prop :=
  (∀ (s t : State) (i : Instr), exec i s = .next t →
    (s.csC = .dead → t.csC = .dead ∨ i = .disconnectC ∧ t.csC = .down)
    ∧ (s.csD = .dead → t.csD = .dead ∨ i = .disconnectD ∧ t.csD = .down)
    ∧ (s.sbValid = false → t.sbValid = true → ∃ h p m, i = .connectD h p m))
  ∧ (∀ s t : State, microStep s = .next t →
    t.csC = s.csC ∧ (s.csD = .dead → t.csD = .dead) ∧ (s.sbValid = false → t.sbValid = false))

/-- An error on one channel does not change the other channel's state (R234): a step that changes CS_C leaves CS_D, SBVALID
and SB alone, and the other way round. -/
def Obligations.ChannelsAreIndependent : Prop :=
  ∀ s t : State, step s = .next t →
    t.csC = s.csC ∨ (t.csD = s.csD ∧ t.sbValid = s.sbValid ∧ t.sb = s.sb)

/-- The parameters are fixed for the life of a model instance (R32, R9). -/
def Obligations.ParametersNeverChange : Prop :=
  ∀ s t : State, step s = .next t → t.params = s.params

/-- What reset leaves (R37, R260): the elements the spec gives a value. -/
def Obligations.ResetValues : Prop :=
  State.reset.sb = [] ∧ State.reset.sbValid = false ∧ State.reset.csC = .down ∧ State.reset.csD = .down
  ∧ State.reset.emitted = 0 ∧ State.reset.out = [] ∧ State.reset.ph = .idle ∧ State.reset.busy = false
  ∧ State.reset.params.sbCap = none ∧ State.reset.params.errLiteralWithSentinel = true
  ∧ State.reset.params.pairReservedPolicy = .refuse

/-- The invariant holds at reset (R37); the invariant itself is the model's (Safety.lean), its clauses those of R9, R20 to
R29, R109 and R181 to R186. -/
def Obligations.ResetIsConsistent : Prop := Consistent State.reset

/-- Every step keeps the invariant. -/
def Obligations.StepKeepsConsistent : Prop :=
  ∀ s t : State, Consistent s → step s = .next t → Consistent t

/-- From a consistent state no step is a fault: no MemRead or SBDrop outside SB, and PH always selects a micro-step (R12,
R27, R60). -/
def Obligations.NoFaultFromConsistentStates : Prop :=
  ∀ (s : State) (f : Fault), Consistent s → step s ≠ .fault f

/-! ## The rows that are no requests -/

/-- ACQUIRE (R210, R211, R212): without a command it is the PULL; with one, the SEND runs first; an error ends it, and after
a success the PULL is accepted. -/
def Obligations.AcquireAnswers : Prop :=
  ∀ (s : State) (n : Nat) (chs : List Nat), s.busy = false →
    (exec (.acquire none n chs) s = exec (.pull n chs) s)
    ∧ (∀ cmd t e, exec (.send cmd) s = .next t → t.env.results = s.env.results ++ [.err e] →
        exec (.acquire (some cmd) n chs) s = .next t)
    ∧ (∀ cmd t v, exec (.send cmd) s = .next t → t.env.results = s.env.results ++ [.ok v] →
        exec (.acquire (some cmd) n chs) s = exec (.pull n chs) t)

/-- ACQUIRE completes with both channels connected and a well-formed list (R211, R262): it ends with the SEND's error, or its
PULL is running. -/
def Obligations.AcquireCompletes : Prop :=
  ∀ (s : State) (sampling : Option Bytes) (n : Nat) (chs : List Nat), s.busy = false → s.csC = .up → s.csD = .up →
    s.sbValid = true → chs ≠ [] → chs.Nodup →
    ∃ t, exec (.acquire sampling n chs) s = .next t
      ∧ ((t.busy = false ∧ ∃ e, t.env.results = s.env.results ++ [.err e])
        ∨ (t.busy = true ∧ t.ph = .loop ∧ t.req = n ∧ t.chsel = chs ∧ t.emitted = 0 ∧ t.out = []))
      ∧ t.sb = s.sb ∧ t.sbValid = true ∧ t.csD = .up

/-- The wire rows complete: the instrument takes a frame that is the next of the outgoing text stream (R81, R35 (3)), and
nothing where it is not (the model's choice, log 12); a reply arrives in the text transport (R83 to R85, R33), a packet in
the binary one (R86, R91, R33); nothing else changes (log 12). -/
def Obligations.WireRowsPass : Prop :=
  ∀ s : State,
    (∀ text rest, s.env.textTx = 0x24 :: removeCrlf text ++ [0x0D, 0x0A] ++ rest →
      exec (.cmdFrame text) s = .next { s with env := { s.env with textTx := rest } })
    ∧ (∀ text, ¬ (0x24 :: removeCrlf text ++ [0x0D, 0x0A]) <+: s.env.textTx → exec (.cmdFrame text) s = .next s)
    ∧ (∀ sent payload run, exec (.respOk sent payload run) s = .next { s with
        env := { s.env with textRx := s.env.textRx ++ (0x24 :: sent ++ payload ++ [0x4F, 0x4B] ++ run) } })
    ∧ (∀ sent run, exec (.respUnknown sent run) s = .next { s with
        env := { s.env with
          textRx := s.env.textRx ++ (0x24 :: sent ++ litUnknown s.params.errLiteralWithSentinel ++ run) } })
    ∧ (∀ sent run, exec (.respWrong sent run) s = .next { s with
        env := { s.env with
          textRx := s.env.textRx ++ (0x24 :: sent ++ litWrong s.params.errLiteralWithSentinel ++ run) } })
    ∧ (∀ sent raw, exec (.respMalformed sent raw) s = .next { s with
        env := { s.env with textRx := s.env.textRx ++ raw } })
    ∧ (∀ r payload, exec (.pkt r payload) s = .next { s with
        env := { s.env with binRx := s.env.binRx ++ (mkHeader r ++ payload) } })

/-! ## The headline laws of PULL -/

/-- Chunk independence (R191): two runs of one PULL from one state whose reads are all chunks, cut differently from the same
bytes, end with the same result, and what is left of the stream is the same byte sequence. Each read may return any number
of the bytes there, at least one (R249). No answer is taken that was not laid down. -/
def Obligations.ChunkIndependence : Prop :=
  ∀ (s t u : State) (cs ds : List ReadChoice) (k l : Nat), Consistent s → s.busy = true → HostSilent s →
    (∀ c ∈ cs, isChunk c) → (∀ d ∈ ds, isChunk d) → chunkBytes cs = chunkBytes ds →
    core.run k (layChunks cs s) = .next t → core.run l (layChunks ds s) = .next u →
    t.busy = false → u.busy = false →
    t.env.oracleTick = s.env.oracleTick → u.env.oracleTick = s.env.oracleTick →
    t.env.results = u.env.results ∧ pendingStream t = pendingStream u ∧ t.csD = u.csD ∧ t.sbValid = u.sbValid

/-- The big-step reference, count reached (R194, R192, R193): the batch is the first REQ frames of the packets in arrival
order, projected on CHSEL, and exactly the packets up to the one that holds the last of them are gone. -/
def Obligations.PullReachesItsCount : Prop :=
  ∀ (s : State) (cs packets : List Bytes) (tail : Bytes) (stop : ReadChoice) (more : List ReadChoice),
    PullStarts s → s.env.chunkAns = cs.map wholeRead ++ stop :: more → stop = .timeout ∨ stop = .eof →
    StreamOf s cs packets tail → s.req ≤ (packets.flatMap (packetFrames s.chsel)).length →
    ∃ k t m, core.run k s = .next t ∧ t.busy = false
      ∧ t.env.results = s.env.results ++ [.ok (orient s.flat ((packets.flatMap (packetFrames s.chsel)).take s.req))]
      ∧ s.req ≤ ((packets.take m).flatMap (packetFrames s.chsel)).length
      ∧ (∀ j < m, ((packets.take j).flatMap (packetFrames s.chsel)).length < s.req)
      ∧ pendingStream t = (packets.drop m).flatten ++ tail ++ chunkBytes more
      ∧ t.sbValid = true ∧ t.csD = .up

/-- The big-step reference, short return (R194): fewer frames than REQ, and less than a header after the last packet. -/
def Obligations.PullReturnsShort : Prop :=
  ∀ (s : State) (cs packets : List Bytes) (tail : Bytes) (stop : ReadChoice) (more : List ReadChoice),
    PullStarts s → s.env.chunkAns = cs.map wholeRead ++ stop :: more → stop = .timeout ∨ stop = .eof →
    StreamOf s cs packets tail → (packets.flatMap (packetFrames s.chsel)).length < s.req → tail.length < 32 →
    ∃ k t, core.run k s = .next t ∧ t.busy = false
      ∧ t.env.results = s.env.results ++ [.ok (orient s.flat (packets.flatMap (packetFrames s.chsel)))]
      ∧ t.sb = tail ∧ t.sbValid = true ∧ t.csD = .up ∧ t.env.chunkAns = more

/-- The big-step reference, incomplete packet (R194, R183): after the packets a header that fits, and not its whole payload. -/
def Obligations.PullEndsIncomplete : Prop :=
  ∀ (s : State) (cs packets : List Bytes) (tail : Bytes) (stop : ReadChoice) (more : List ReadChoice),
    PullStarts s → s.env.chunkAns = cs.map wholeRead ++ stop :: more → stop = .timeout ∨ stop = .eof →
    StreamOf s cs packets tail → (packets.flatMap (packetFrames s.chsel)).length < s.req → 32 ≤ tail.length →
    HeaderFits s.params s.chsel (decodeHeader tail) → tail.length < packetLen (decodeHeader tail) →
    ∃ k t, core.run k s = .next t ∧ t.busy = false
      ∧ t.env.results = s.env.results ++
          [.err (.incompletePacket (decodeHeader tail) tail.length (packetLen (decodeHeader tail)))]
      ∧ t.sbValid = false ∧ t.csD = .up ∧ t.env.chunkAns = more
end

