-- ==== Sys2Proof/Laws/Codec.lean ====
section
/-! SUPPORT. What the operand reads and writes and the field computations do, one lemma each. -/

namespace Sys2Proof

/-! ## Operands on the request port -/

theorem getNat_putNatFuel (fuel n : Nat) (h : n ≤ fuel) (rest : Bytes) :
    getNat (putNatFuel fuel n ++ rest) = some (n, rest) := by
  induction fuel generalizing n with
  | zero =>
    obtain rfl : n = 0 := by omega
    rfl
  | succ fuel ih =>
    unfold putNatFuel
    split
    · next hn =>
      simp only [List.cons_append, List.nil_append, getNat, BitVec.toNat_ofNat]
      rw [Nat.mod_eq_of_lt (by omega), if_pos hn]
    · next hn =>
      simp only [List.cons_append, getNat, BitVec.toNat_ofNat]
      rw [Nat.mod_eq_of_lt (by omega), if_neg (by omega), ih (n / 128) (by omega)]
      simp only [Option.some.injEq, Prod.mk.injEq, and_true]
      omega

/-- A natural is read back, whatever follows it. -/
theorem getNat_putNat (n : Nat) (rest : Bytes) : getNat (putNat n ++ rest) = some (n, rest) :=
  getNat_putNatFuel n n (Nat.le_refl n) rest

/-- A byte sequence is read back, whatever follows it. -/
theorem getBytes_putBytes (bs rest : Bytes) : getBytes (putBytes bs ++ rest) = some (bs, rest) := by
  simp [getBytes, putBytes, List.append_assoc, getNat_putNat]

theorem getNatsN_flatMap (vs : List Nat) (rest : Bytes) :
    getNatsN vs.length (vs.flatMap putNat ++ rest) = some (vs, rest) := by
  induction vs with
  | nil => rfl
  | cons v vs ih => simp [getNatsN, List.append_assoc, getNat_putNat, ih]

/-- A list of naturals is read back, whatever follows it. -/
theorem getNats_putNats (vs : List Nat) (rest : Bytes) : getNats (putNats vs ++ rest) = some (vs, rest) := by
  simp [getNats, putNats, List.append_assoc, getNat_putNat, getNatsN_flatMap]

namespace Machine

/-! ## Fields -/

theorem byteAt_lt (s : Bytes) (i : Nat) : byteAt s i < 256 := (s.getD i 0).isLt

theorem le16u_lt (s : Bytes) (o : Nat) : le16u s o < 2 ^ 16 := by
  have := byteAt_lt s o; have := byteAt_lt s (o + 1)
  unfold le16u; omega

theorem le32u_lt (s : Bytes) (o : Nat) : le32u s o < 2 ^ 32 := by
  have := byteAt_lt s o; have := byteAt_lt s (o + 1); have := byteAt_lt s (o + 2); have := byteAt_lt s (o + 3)
  unfold le32u; omega

/-- Every signed field is an int32. -/
theorem le32s_isInt32 (s : Bytes) (o : Nat) : isInt32 (le32s s o) = true := by
  have := le32u_lt s o
  unfold le32s sext32 isInt32
  split <;> simp <;> omega

theorem leBytes_length (n v : Nat) : (leBytes n v).length = n := by
  induction n generalizing v with
  | zero => rfl
  | succ n ih => simp [leBytes, ih]

/-- A read below `n` sees only the first `n` bytes. -/
theorem byteAt_take (s : Bytes) (n i : Nat) (h : i < n) : byteAt (s.take n) i = byteAt s i := by
  simp [byteAt, List.getD_eq_getElem?_getD, h]

/-- A read within a sequence does not see what follows it. -/
theorem byteAt_append (s t : Bytes) (i : Nat) (h : i < s.length) : byteAt (s ++ t) i = byteAt s i := by
  simp [byteAt, List.getD_eq_getElem?_getD, List.getElem?_append_left h]

/-! ## Text -/

theorem isCrlf_iff (b : Byte) : isCrlf b = true ↔ b = 0x0D ∨ b = 0x0A := by simp [isCrlf, cr, lf]

theorem removeCrlf_append (s t : Bytes) : removeCrlf (s ++ t) = removeCrlf s ++ removeCrlf t := by simp [removeCrlf]

/-- A sequence that is all CR and LF is stripped to nothing. -/
theorem rstripCrlf_run (run : Bytes) (h : ∀ b ∈ run, isCrlf b = true) : rstripCrlf run = [] := by
  induction run with
  | nil => rfl
  | cons b bs ih => simp [rstripCrlf, ih fun c hc => h c (List.mem_cons_of_mem b hc), h b List.mem_cons_self]

/-- The strip stops at a byte that is neither CR nor LF. -/
theorem rstripCrlf_append (s run : Bytes) (b : Byte) (hb : isCrlf b = false) (h : ∀ c ∈ run, isCrlf c = true) :
    rstripCrlf (s ++ b :: run) = s ++ [b] := by
  induction s with
  | nil => simp [rstripCrlf, rstripCrlf_run run h, hb]
  | cons c s ih =>
    simp only [List.cons_append, rstripCrlf, ih]
    cases s <;> rfl

theorem startsWith_iff (s p : Bytes) : startsWith s p = true ↔ ∃ t, s = p ++ t := by
  simp only [startsWith, Bool.and_eq_true, decide_eq_true_eq, beq_iff_eq]
  constructor
  · rintro ⟨-, h⟩
    exact ⟨s.drop p.length, by conv_lhs => rw [← List.take_append_drop p.length s, h]⟩
  · rintro ⟨t, rfl⟩
    simp

theorem endsWith_iff (s q : Bytes) : endsWith s q = true ↔ ∃ t, s = t ++ q := by
  simp only [endsWith, Bool.and_eq_true, decide_eq_true_eq, beq_iff_eq]
  constructor
  · rintro ⟨-, h⟩
    exact ⟨s.take (s.length - q.length), by conv_lhs => rw [← List.take_append_drop (s.length - q.length) s, h]⟩
  · rintro ⟨t, rfl⟩
    simp

end Machine

end Sys2Proof
end

