-- ==== Sys2Proof/Laws/State.lean ====
section
/-! SUPPORT. One lemma per field per update of State, true by rfl. -/

namespace Sys2Proof.Machine

variable (s : State)

@[simp] theorem setBusy_sb (b : Bool) : (setBusy b s).sb = s.sb := rfl
@[simp] theorem setBusy_sbValid (b : Bool) : (setBusy b s).sbValid = s.sbValid := rfl
@[simp] theorem setBusy_csC (b : Bool) : (setBusy b s).csC = s.csC := rfl
@[simp] theorem setBusy_csD (b : Bool) : (setBusy b s).csD = s.csD := rfl
@[simp] theorem setBusy_req (b : Bool) : (setBusy b s).req = s.req := rfl
@[simp] theorem setBusy_chsel (b : Bool) : (setBusy b s).chsel = s.chsel := rfl
@[simp] theorem setBusy_emitted (b : Bool) : (setBusy b s).emitted = s.emitted := rfl
@[simp] theorem setBusy_out (b : Bool) : (setBusy b s).out = s.out := rfl
@[simp] theorem setBusy_flat (b : Bool) : (setBusy b s).flat = s.flat := rfl
@[simp] theorem setBusy_ph (b : Bool) : (setBusy b s).ph = s.ph := rfl
@[simp] theorem setBusy_hdr (b : Bool) : (setBusy b s).hdr = s.hdr := rfl
@[simp] theorem setBusy_busy (b : Bool) : (setBusy b s).busy = b := rfl
@[simp] theorem setBusy_cmd (b : Bool) : (setBusy b s).cmd = s.cmd := rfl
@[simp] theorem setBusy_params (b : Bool) : (setBusy b s).params = s.params := rfl
@[simp] theorem setBusy_env (b : Bool) : (setBusy b s).env = s.env := rfl
@[simp] theorem setBusy_freeTick (b : Bool) : (setBusy b s).freeTick = s.freeTick := rfl

@[simp] theorem setCsC_sb (l : Link) : (setCsC l s).sb = s.sb := rfl
@[simp] theorem setCsC_sbValid (l : Link) : (setCsC l s).sbValid = s.sbValid := rfl
@[simp] theorem setCsC_csC (l : Link) : (setCsC l s).csC = l := rfl
@[simp] theorem setCsC_csD (l : Link) : (setCsC l s).csD = s.csD := rfl
@[simp] theorem setCsC_req (l : Link) : (setCsC l s).req = s.req := rfl
@[simp] theorem setCsC_chsel (l : Link) : (setCsC l s).chsel = s.chsel := rfl
@[simp] theorem setCsC_emitted (l : Link) : (setCsC l s).emitted = s.emitted := rfl
@[simp] theorem setCsC_out (l : Link) : (setCsC l s).out = s.out := rfl
@[simp] theorem setCsC_flat (l : Link) : (setCsC l s).flat = s.flat := rfl
@[simp] theorem setCsC_ph (l : Link) : (setCsC l s).ph = s.ph := rfl
@[simp] theorem setCsC_hdr (l : Link) : (setCsC l s).hdr = s.hdr := rfl
@[simp] theorem setCsC_busy (l : Link) : (setCsC l s).busy = s.busy := rfl
@[simp] theorem setCsC_cmd (l : Link) : (setCsC l s).cmd = s.cmd := rfl
@[simp] theorem setCsC_params (l : Link) : (setCsC l s).params = s.params := rfl
@[simp] theorem setCsC_env (l : Link) : (setCsC l s).env = s.env := rfl
@[simp] theorem setCsC_freeTick (l : Link) : (setCsC l s).freeTick = s.freeTick := rfl

@[simp] theorem setCsD_sb (l : Link) : (setCsD l s).sb = s.sb := rfl
@[simp] theorem setCsD_sbValid (l : Link) : (setCsD l s).sbValid = s.sbValid := rfl
@[simp] theorem setCsD_csC (l : Link) : (setCsD l s).csC = s.csC := rfl
@[simp] theorem setCsD_csD (l : Link) : (setCsD l s).csD = l := rfl
@[simp] theorem setCsD_req (l : Link) : (setCsD l s).req = s.req := rfl
@[simp] theorem setCsD_chsel (l : Link) : (setCsD l s).chsel = s.chsel := rfl
@[simp] theorem setCsD_emitted (l : Link) : (setCsD l s).emitted = s.emitted := rfl
@[simp] theorem setCsD_out (l : Link) : (setCsD l s).out = s.out := rfl
@[simp] theorem setCsD_flat (l : Link) : (setCsD l s).flat = s.flat := rfl
@[simp] theorem setCsD_ph (l : Link) : (setCsD l s).ph = s.ph := rfl
@[simp] theorem setCsD_hdr (l : Link) : (setCsD l s).hdr = s.hdr := rfl
@[simp] theorem setCsD_busy (l : Link) : (setCsD l s).busy = s.busy := rfl
@[simp] theorem setCsD_cmd (l : Link) : (setCsD l s).cmd = s.cmd := rfl
@[simp] theorem setCsD_params (l : Link) : (setCsD l s).params = s.params := rfl
@[simp] theorem setCsD_env (l : Link) : (setCsD l s).env = s.env := rfl
@[simp] theorem setCsD_freeTick (l : Link) : (setCsD l s).freeTick = s.freeTick := rfl

@[simp] theorem setSbValid_sb (b : Bool) : (setSbValid b s).sb = s.sb := rfl
@[simp] theorem setSbValid_sbValid (b : Bool) : (setSbValid b s).sbValid = b := rfl
@[simp] theorem setSbValid_csC (b : Bool) : (setSbValid b s).csC = s.csC := rfl
@[simp] theorem setSbValid_csD (b : Bool) : (setSbValid b s).csD = s.csD := rfl
@[simp] theorem setSbValid_req (b : Bool) : (setSbValid b s).req = s.req := rfl
@[simp] theorem setSbValid_chsel (b : Bool) : (setSbValid b s).chsel = s.chsel := rfl
@[simp] theorem setSbValid_emitted (b : Bool) : (setSbValid b s).emitted = s.emitted := rfl
@[simp] theorem setSbValid_out (b : Bool) : (setSbValid b s).out = s.out := rfl
@[simp] theorem setSbValid_flat (b : Bool) : (setSbValid b s).flat = s.flat := rfl
@[simp] theorem setSbValid_ph (b : Bool) : (setSbValid b s).ph = s.ph := rfl
@[simp] theorem setSbValid_hdr (b : Bool) : (setSbValid b s).hdr = s.hdr := rfl
@[simp] theorem setSbValid_busy (b : Bool) : (setSbValid b s).busy = s.busy := rfl
@[simp] theorem setSbValid_cmd (b : Bool) : (setSbValid b s).cmd = s.cmd := rfl
@[simp] theorem setSbValid_params (b : Bool) : (setSbValid b s).params = s.params := rfl
@[simp] theorem setSbValid_env (b : Bool) : (setSbValid b s).env = s.env := rfl
@[simp] theorem setSbValid_freeTick (b : Bool) : (setSbValid b s).freeTick = s.freeTick := rfl

@[simp] theorem setPh_sb (p : Phase) : (setPh p s).sb = s.sb := rfl
@[simp] theorem setPh_sbValid (p : Phase) : (setPh p s).sbValid = s.sbValid := rfl
@[simp] theorem setPh_csC (p : Phase) : (setPh p s).csC = s.csC := rfl
@[simp] theorem setPh_csD (p : Phase) : (setPh p s).csD = s.csD := rfl
@[simp] theorem setPh_req (p : Phase) : (setPh p s).req = s.req := rfl
@[simp] theorem setPh_chsel (p : Phase) : (setPh p s).chsel = s.chsel := rfl
@[simp] theorem setPh_emitted (p : Phase) : (setPh p s).emitted = s.emitted := rfl
@[simp] theorem setPh_out (p : Phase) : (setPh p s).out = s.out := rfl
@[simp] theorem setPh_flat (p : Phase) : (setPh p s).flat = s.flat := rfl
@[simp] theorem setPh_ph (p : Phase) : (setPh p s).ph = p := rfl
@[simp] theorem setPh_hdr (p : Phase) : (setPh p s).hdr = s.hdr := rfl
@[simp] theorem setPh_busy (p : Phase) : (setPh p s).busy = s.busy := rfl
@[simp] theorem setPh_cmd (p : Phase) : (setPh p s).cmd = s.cmd := rfl
@[simp] theorem setPh_params (p : Phase) : (setPh p s).params = s.params := rfl
@[simp] theorem setPh_env (p : Phase) : (setPh p s).env = s.env := rfl
@[simp] theorem setPh_freeTick (p : Phase) : (setPh p s).freeTick = s.freeTick := rfl

@[simp] theorem setSb_sb (m : Memory) : (setSb m s).sb = m := rfl
@[simp] theorem setSb_sbValid (m : Memory) : (setSb m s).sbValid = s.sbValid := rfl
@[simp] theorem setSb_csC (m : Memory) : (setSb m s).csC = s.csC := rfl
@[simp] theorem setSb_csD (m : Memory) : (setSb m s).csD = s.csD := rfl
@[simp] theorem setSb_req (m : Memory) : (setSb m s).req = s.req := rfl
@[simp] theorem setSb_chsel (m : Memory) : (setSb m s).chsel = s.chsel := rfl
@[simp] theorem setSb_emitted (m : Memory) : (setSb m s).emitted = s.emitted := rfl
@[simp] theorem setSb_out (m : Memory) : (setSb m s).out = s.out := rfl
@[simp] theorem setSb_flat (m : Memory) : (setSb m s).flat = s.flat := rfl
@[simp] theorem setSb_ph (m : Memory) : (setSb m s).ph = s.ph := rfl
@[simp] theorem setSb_hdr (m : Memory) : (setSb m s).hdr = s.hdr := rfl
@[simp] theorem setSb_busy (m : Memory) : (setSb m s).busy = s.busy := rfl
@[simp] theorem setSb_cmd (m : Memory) : (setSb m s).cmd = s.cmd := rfl
@[simp] theorem setSb_params (m : Memory) : (setSb m s).params = s.params := rfl
@[simp] theorem setSb_env (m : Memory) : (setSb m s).env = s.env := rfl
@[simp] theorem setSb_freeTick (m : Memory) : (setSb m s).freeTick = s.freeTick := rfl

@[simp] theorem setCmd_sb (c : Bytes) : (setCmd c s).sb = s.sb := rfl
@[simp] theorem setCmd_sbValid (c : Bytes) : (setCmd c s).sbValid = s.sbValid := rfl
@[simp] theorem setCmd_csC (c : Bytes) : (setCmd c s).csC = s.csC := rfl
@[simp] theorem setCmd_csD (c : Bytes) : (setCmd c s).csD = s.csD := rfl
@[simp] theorem setCmd_req (c : Bytes) : (setCmd c s).req = s.req := rfl
@[simp] theorem setCmd_chsel (c : Bytes) : (setCmd c s).chsel = s.chsel := rfl
@[simp] theorem setCmd_emitted (c : Bytes) : (setCmd c s).emitted = s.emitted := rfl
@[simp] theorem setCmd_out (c : Bytes) : (setCmd c s).out = s.out := rfl
@[simp] theorem setCmd_flat (c : Bytes) : (setCmd c s).flat = s.flat := rfl
@[simp] theorem setCmd_ph (c : Bytes) : (setCmd c s).ph = s.ph := rfl
@[simp] theorem setCmd_hdr (c : Bytes) : (setCmd c s).hdr = s.hdr := rfl
@[simp] theorem setCmd_busy (c : Bytes) : (setCmd c s).busy = s.busy := rfl
@[simp] theorem setCmd_cmd (c : Bytes) : (setCmd c s).cmd = c := rfl
@[simp] theorem setCmd_params (c : Bytes) : (setCmd c s).params = s.params := rfl
@[simp] theorem setCmd_env (c : Bytes) : (setCmd c s).env = s.env := rfl
@[simp] theorem setCmd_freeTick (c : Bytes) : (setCmd c s).freeTick = s.freeTick := rfl

@[simp] theorem setHdr_sb (h : Header) : (setHdr h s).sb = s.sb := rfl
@[simp] theorem setHdr_sbValid (h : Header) : (setHdr h s).sbValid = s.sbValid := rfl
@[simp] theorem setHdr_csC (h : Header) : (setHdr h s).csC = s.csC := rfl
@[simp] theorem setHdr_csD (h : Header) : (setHdr h s).csD = s.csD := rfl
@[simp] theorem setHdr_req (h : Header) : (setHdr h s).req = s.req := rfl
@[simp] theorem setHdr_chsel (h : Header) : (setHdr h s).chsel = s.chsel := rfl
@[simp] theorem setHdr_emitted (h : Header) : (setHdr h s).emitted = s.emitted := rfl
@[simp] theorem setHdr_out (h : Header) : (setHdr h s).out = s.out := rfl
@[simp] theorem setHdr_flat (h : Header) : (setHdr h s).flat = s.flat := rfl
@[simp] theorem setHdr_ph (h : Header) : (setHdr h s).ph = s.ph := rfl
@[simp] theorem setHdr_hdr (h : Header) : (setHdr h s).hdr = h := rfl
@[simp] theorem setHdr_busy (h : Header) : (setHdr h s).busy = s.busy := rfl
@[simp] theorem setHdr_cmd (h : Header) : (setHdr h s).cmd = s.cmd := rfl
@[simp] theorem setHdr_params (h : Header) : (setHdr h s).params = s.params := rfl
@[simp] theorem setHdr_env (h : Header) : (setHdr h s).env = s.env := rfl
@[simp] theorem setHdr_freeTick (h : Header) : (setHdr h s).freeTick = s.freeTick := rfl

@[simp] theorem setEnv_sb (e : Env) : (setEnv e s).sb = s.sb := rfl
@[simp] theorem setEnv_sbValid (e : Env) : (setEnv e s).sbValid = s.sbValid := rfl
@[simp] theorem setEnv_csC (e : Env) : (setEnv e s).csC = s.csC := rfl
@[simp] theorem setEnv_csD (e : Env) : (setEnv e s).csD = s.csD := rfl
@[simp] theorem setEnv_req (e : Env) : (setEnv e s).req = s.req := rfl
@[simp] theorem setEnv_chsel (e : Env) : (setEnv e s).chsel = s.chsel := rfl
@[simp] theorem setEnv_emitted (e : Env) : (setEnv e s).emitted = s.emitted := rfl
@[simp] theorem setEnv_out (e : Env) : (setEnv e s).out = s.out := rfl
@[simp] theorem setEnv_flat (e : Env) : (setEnv e s).flat = s.flat := rfl
@[simp] theorem setEnv_ph (e : Env) : (setEnv e s).ph = s.ph := rfl
@[simp] theorem setEnv_hdr (e : Env) : (setEnv e s).hdr = s.hdr := rfl
@[simp] theorem setEnv_busy (e : Env) : (setEnv e s).busy = s.busy := rfl
@[simp] theorem setEnv_cmd (e : Env) : (setEnv e s).cmd = s.cmd := rfl
@[simp] theorem setEnv_params (e : Env) : (setEnv e s).params = s.params := rfl
@[simp] theorem setEnv_env (e : Env) : (setEnv e s).env = e := rfl
@[simp] theorem setEnv_freeTick (e : Env) : (setEnv e s).freeTick = s.freeTick := rfl

@[simp] theorem emit_sb (ts : List (List Int)) : (emit ts s).sb = s.sb := rfl
@[simp] theorem emit_sbValid (ts : List (List Int)) : (emit ts s).sbValid = s.sbValid := rfl
@[simp] theorem emit_csC (ts : List (List Int)) : (emit ts s).csC = s.csC := rfl
@[simp] theorem emit_csD (ts : List (List Int)) : (emit ts s).csD = s.csD := rfl
@[simp] theorem emit_req (ts : List (List Int)) : (emit ts s).req = s.req := rfl
@[simp] theorem emit_chsel (ts : List (List Int)) : (emit ts s).chsel = s.chsel := rfl
@[simp] theorem emit_emitted (ts : List (List Int)) : (emit ts s).emitted = s.emitted + ts.length := rfl
@[simp] theorem emit_out (ts : List (List Int)) : (emit ts s).out = s.out ++ ts := rfl
@[simp] theorem emit_flat (ts : List (List Int)) : (emit ts s).flat = s.flat := rfl
@[simp] theorem emit_ph (ts : List (List Int)) : (emit ts s).ph = s.ph := rfl
@[simp] theorem emit_hdr (ts : List (List Int)) : (emit ts s).hdr = s.hdr := rfl
@[simp] theorem emit_busy (ts : List (List Int)) : (emit ts s).busy = s.busy := rfl
@[simp] theorem emit_cmd (ts : List (List Int)) : (emit ts s).cmd = s.cmd := rfl
@[simp] theorem emit_params (ts : List (List Int)) : (emit ts s).params = s.params := rfl
@[simp] theorem emit_env (ts : List (List Int)) : (emit ts s).env = s.env := rfl
@[simp] theorem emit_freeTick (ts : List (List Int)) : (emit ts s).freeTick = s.freeTick := rfl

@[simp] theorem latchPull_sb (n : Nat) (chs : List Nat) : (latchPull n chs s).sb = s.sb := rfl
@[simp] theorem latchPull_sbValid (n : Nat) (chs : List Nat) : (latchPull n chs s).sbValid = s.sbValid := rfl
@[simp] theorem latchPull_csC (n : Nat) (chs : List Nat) : (latchPull n chs s).csC = s.csC := rfl
@[simp] theorem latchPull_csD (n : Nat) (chs : List Nat) : (latchPull n chs s).csD = s.csD := rfl
@[simp] theorem latchPull_req (n : Nat) (chs : List Nat) : (latchPull n chs s).req = n := rfl
@[simp] theorem latchPull_chsel (n : Nat) (chs : List Nat) : (latchPull n chs s).chsel = chs := rfl
@[simp] theorem latchPull_emitted (n : Nat) (chs : List Nat) : (latchPull n chs s).emitted = 0 := rfl
@[simp] theorem latchPull_out (n : Nat) (chs : List Nat) : (latchPull n chs s).out = [] := rfl
@[simp] theorem latchPull_flat (n : Nat) (chs : List Nat) : (latchPull n chs s).flat = flatOf chs := rfl
@[simp] theorem latchPull_ph (n : Nat) (chs : List Nat) : (latchPull n chs s).ph = s.ph := rfl
@[simp] theorem latchPull_hdr (n : Nat) (chs : List Nat) : (latchPull n chs s).hdr = s.hdr := rfl
@[simp] theorem latchPull_busy (n : Nat) (chs : List Nat) : (latchPull n chs s).busy = s.busy := rfl
@[simp] theorem latchPull_cmd (n : Nat) (chs : List Nat) : (latchPull n chs s).cmd = s.cmd := rfl
@[simp] theorem latchPull_params (n : Nat) (chs : List Nat) : (latchPull n chs s).params = s.params := rfl
@[simp] theorem latchPull_env (n : Nat) (chs : List Nat) : (latchPull n chs s).env = s.env := rfl
@[simp] theorem latchPull_freeTick (n : Nat) (chs : List Nat) : (latchPull n chs s).freeTick = s.freeTick := rfl

@[simp] theorem forgetCmd_sb : (forgetCmd s).sb = s.sb := rfl
@[simp] theorem forgetCmd_sbValid : (forgetCmd s).sbValid = s.sbValid := rfl
@[simp] theorem forgetCmd_csC : (forgetCmd s).csC = s.csC := rfl
@[simp] theorem forgetCmd_csD : (forgetCmd s).csD = s.csD := rfl
@[simp] theorem forgetCmd_req : (forgetCmd s).req = s.req := rfl
@[simp] theorem forgetCmd_chsel : (forgetCmd s).chsel = s.chsel := rfl
@[simp] theorem forgetCmd_emitted : (forgetCmd s).emitted = s.emitted := rfl
@[simp] theorem forgetCmd_out : (forgetCmd s).out = s.out := rfl
@[simp] theorem forgetCmd_flat : (forgetCmd s).flat = s.flat := rfl
@[simp] theorem forgetCmd_ph : (forgetCmd s).ph = s.ph := rfl
@[simp] theorem forgetCmd_hdr : (forgetCmd s).hdr = s.hdr := rfl
@[simp] theorem forgetCmd_busy : (forgetCmd s).busy = s.busy := rfl
@[simp] theorem forgetCmd_cmd : (forgetCmd s).cmd = Config.freeCmd s.freeTick := rfl
@[simp] theorem forgetCmd_params : (forgetCmd s).params = s.params := rfl
@[simp] theorem forgetCmd_env : (forgetCmd s).env = s.env := rfl
@[simp] theorem forgetCmd_freeTick : (forgetCmd s).freeTick = s.freeTick + 1 := rfl

@[simp] theorem forgetHdr_sb : (forgetHdr s).sb = s.sb := rfl
@[simp] theorem forgetHdr_sbValid : (forgetHdr s).sbValid = s.sbValid := rfl
@[simp] theorem forgetHdr_csC : (forgetHdr s).csC = s.csC := rfl
@[simp] theorem forgetHdr_csD : (forgetHdr s).csD = s.csD := rfl
@[simp] theorem forgetHdr_req : (forgetHdr s).req = s.req := rfl
@[simp] theorem forgetHdr_chsel : (forgetHdr s).chsel = s.chsel := rfl
@[simp] theorem forgetHdr_emitted : (forgetHdr s).emitted = s.emitted := rfl
@[simp] theorem forgetHdr_out : (forgetHdr s).out = s.out := rfl
@[simp] theorem forgetHdr_flat : (forgetHdr s).flat = s.flat := rfl
@[simp] theorem forgetHdr_ph : (forgetHdr s).ph = s.ph := rfl
@[simp] theorem forgetHdr_hdr : (forgetHdr s).hdr = Config.freeHdr s.freeTick := rfl
@[simp] theorem forgetHdr_busy : (forgetHdr s).busy = s.busy := rfl
@[simp] theorem forgetHdr_cmd : (forgetHdr s).cmd = s.cmd := rfl
@[simp] theorem forgetHdr_params : (forgetHdr s).params = s.params := rfl
@[simp] theorem forgetHdr_env : (forgetHdr s).env = s.env := rfl
@[simp] theorem forgetHdr_freeTick : (forgetHdr s).freeTick = s.freeTick + 1 := rfl

@[simp] theorem forgetPull_sb : (forgetPull s).sb = s.sb := rfl
@[simp] theorem forgetPull_sbValid : (forgetPull s).sbValid = s.sbValid := rfl
@[simp] theorem forgetPull_csC : (forgetPull s).csC = s.csC := rfl
@[simp] theorem forgetPull_csD : (forgetPull s).csD = s.csD := rfl
@[simp] theorem forgetPull_req : (forgetPull s).req = Config.freeReq s.freeTick := rfl
@[simp] theorem forgetPull_chsel : (forgetPull s).chsel = Config.freeChsel s.freeTick := rfl
@[simp] theorem forgetPull_emitted : (forgetPull s).emitted = s.emitted := rfl
@[simp] theorem forgetPull_out : (forgetPull s).out = s.out := rfl
@[simp] theorem forgetPull_flat : (forgetPull s).flat = Config.freeFlat s.freeTick := rfl
@[simp] theorem forgetPull_ph : (forgetPull s).ph = s.ph := rfl
@[simp] theorem forgetPull_hdr : (forgetPull s).hdr = Config.freeHdr s.freeTick := rfl
@[simp] theorem forgetPull_busy : (forgetPull s).busy = s.busy := rfl
@[simp] theorem forgetPull_cmd : (forgetPull s).cmd = s.cmd := rfl
@[simp] theorem forgetPull_params : (forgetPull s).params = s.params := rfl
@[simp] theorem forgetPull_env : (forgetPull s).env = s.env := rfl
@[simp] theorem forgetPull_freeTick : (forgetPull s).freeTick = s.freeTick + 1 := rfl

@[simp] theorem forgetOut_sb : (forgetOut s).sb = s.sb := rfl
@[simp] theorem forgetOut_sbValid : (forgetOut s).sbValid = s.sbValid := rfl
@[simp] theorem forgetOut_csC : (forgetOut s).csC = s.csC := rfl
@[simp] theorem forgetOut_csD : (forgetOut s).csD = s.csD := rfl
@[simp] theorem forgetOut_req : (forgetOut s).req = s.req := rfl
@[simp] theorem forgetOut_chsel : (forgetOut s).chsel = s.chsel := rfl
@[simp] theorem forgetOut_emitted : (forgetOut s).emitted = s.emitted := rfl
@[simp] theorem forgetOut_out : (forgetOut s).out = Config.freeOut s.freeTick := rfl
@[simp] theorem forgetOut_flat : (forgetOut s).flat = s.flat := rfl
@[simp] theorem forgetOut_ph : (forgetOut s).ph = s.ph := rfl
@[simp] theorem forgetOut_hdr : (forgetOut s).hdr = s.hdr := rfl
@[simp] theorem forgetOut_busy : (forgetOut s).busy = s.busy := rfl
@[simp] theorem forgetOut_cmd : (forgetOut s).cmd = s.cmd := rfl
@[simp] theorem forgetOut_params : (forgetOut s).params = s.params := rfl
@[simp] theorem forgetOut_env : (forgetOut s).env = s.env := rfl
@[simp] theorem forgetOut_freeTick : (forgetOut s).freeTick = s.freeTick + 1 := rfl

@[simp] theorem forgetSb_sb : (forgetSb s).sb = clip s.params.sbCap (Config.freeSb s.freeTick) := rfl
@[simp] theorem forgetSb_sbValid : (forgetSb s).sbValid = s.sbValid := rfl
@[simp] theorem forgetSb_csC : (forgetSb s).csC = s.csC := rfl
@[simp] theorem forgetSb_csD : (forgetSb s).csD = s.csD := rfl
@[simp] theorem forgetSb_req : (forgetSb s).req = s.req := rfl
@[simp] theorem forgetSb_chsel : (forgetSb s).chsel = s.chsel := rfl
@[simp] theorem forgetSb_emitted : (forgetSb s).emitted = s.emitted := rfl
@[simp] theorem forgetSb_out : (forgetSb s).out = s.out := rfl
@[simp] theorem forgetSb_flat : (forgetSb s).flat = s.flat := rfl
@[simp] theorem forgetSb_ph : (forgetSb s).ph = s.ph := rfl
@[simp] theorem forgetSb_hdr : (forgetSb s).hdr = s.hdr := rfl
@[simp] theorem forgetSb_busy : (forgetSb s).busy = s.busy := rfl
@[simp] theorem forgetSb_cmd : (forgetSb s).cmd = s.cmd := rfl
@[simp] theorem forgetSb_params : (forgetSb s).params = s.params := rfl
@[simp] theorem forgetSb_env : (forgetSb s).env = s.env := rfl
@[simp] theorem forgetSb_freeTick : (forgetSb s).freeTick = s.freeTick + 1 := rfl

@[simp] theorem present_sb (r : Result) : (present r s).sb = s.sb := rfl
@[simp] theorem present_sbValid (r : Result) : (present r s).sbValid = s.sbValid := rfl
@[simp] theorem present_csC (r : Result) : (present r s).csC = s.csC := rfl
@[simp] theorem present_csD (r : Result) : (present r s).csD = s.csD := rfl
@[simp] theorem present_req (r : Result) : (present r s).req = s.req := rfl
@[simp] theorem present_chsel (r : Result) : (present r s).chsel = s.chsel := rfl
@[simp] theorem present_emitted (r : Result) : (present r s).emitted = s.emitted := rfl
@[simp] theorem present_out (r : Result) : (present r s).out = s.out := rfl
@[simp] theorem present_flat (r : Result) : (present r s).flat = s.flat := rfl
@[simp] theorem present_ph (r : Result) : (present r s).ph = s.ph := rfl
@[simp] theorem present_hdr (r : Result) : (present r s).hdr = s.hdr := rfl
@[simp] theorem present_busy (r : Result) : (present r s).busy = false := rfl
@[simp] theorem present_cmd (r : Result) : (present r s).cmd = s.cmd := rfl
@[simp] theorem present_params (r : Result) : (present r s).params = s.params := rfl
@[simp] theorem present_env (r : Result) : (present r s).env = { s.env with results := s.env.results ++ [r] } := rfl
@[simp] theorem present_freeTick (r : Result) : (present r s).freeTick = s.freeTick := rfl

@[simp] theorem finish_sb (v : Value) : (finish v s).sb = s.sb := rfl
@[simp] theorem finish_sbValid (v : Value) : (finish v s).sbValid = s.sbValid := rfl
@[simp] theorem finish_csC (v : Value) : (finish v s).csC = s.csC := rfl
@[simp] theorem finish_csD (v : Value) : (finish v s).csD = s.csD := rfl
@[simp] theorem finish_req (v : Value) : (finish v s).req = s.req := rfl
@[simp] theorem finish_chsel (v : Value) : (finish v s).chsel = s.chsel := rfl
@[simp] theorem finish_emitted (v : Value) : (finish v s).emitted = s.emitted := rfl
@[simp] theorem finish_out (v : Value) : (finish v s).out = s.out := rfl
@[simp] theorem finish_flat (v : Value) : (finish v s).flat = s.flat := rfl
@[simp] theorem finish_ph (v : Value) : (finish v s).ph = s.ph := rfl
@[simp] theorem finish_hdr (v : Value) : (finish v s).hdr = s.hdr := rfl
@[simp] theorem finish_busy (v : Value) : (finish v s).busy = false := rfl
@[simp] theorem finish_cmd (v : Value) : (finish v s).cmd = s.cmd := rfl
@[simp] theorem finish_params (v : Value) : (finish v s).params = s.params := rfl
@[simp] theorem finish_env (v : Value) : (finish v s).env = { s.env with results := s.env.results ++ [.ok v] } := rfl
@[simp] theorem finish_freeTick (v : Value) : (finish v s).freeTick = s.freeTick := rfl

@[simp] theorem raise_sb (e : Err) : (raise e s).sb = s.sb := rfl
@[simp] theorem raise_sbValid (e : Err) : (raise e s).sbValid = s.sbValid := rfl
@[simp] theorem raise_csC (e : Err) : (raise e s).csC = s.csC := rfl
@[simp] theorem raise_csD (e : Err) : (raise e s).csD = s.csD := rfl
@[simp] theorem raise_req (e : Err) : (raise e s).req = s.req := rfl
@[simp] theorem raise_chsel (e : Err) : (raise e s).chsel = s.chsel := rfl
@[simp] theorem raise_emitted (e : Err) : (raise e s).emitted = s.emitted := rfl
@[simp] theorem raise_out (e : Err) : (raise e s).out = s.out := rfl
@[simp] theorem raise_flat (e : Err) : (raise e s).flat = s.flat := rfl
@[simp] theorem raise_ph (e : Err) : (raise e s).ph = .idle := rfl
@[simp] theorem raise_hdr (e : Err) : (raise e s).hdr = s.hdr := rfl
@[simp] theorem raise_busy (e : Err) : (raise e s).busy = false := rfl
@[simp] theorem raise_cmd (e : Err) : (raise e s).cmd = s.cmd := rfl
@[simp] theorem raise_params (e : Err) : (raise e s).params = s.params := rfl
@[simp] theorem raise_env (e : Err) : (raise e s).env = { s.env with results := s.env.results ++ [.err e] } := rfl
@[simp] theorem raise_freeTick (e : Err) : (raise e s).freeTick = s.freeTick := rfl

@[simp] theorem noteCall_sb (c : PortCall) : (noteCall c s).sb = s.sb := rfl
@[simp] theorem noteCall_sbValid (c : PortCall) : (noteCall c s).sbValid = s.sbValid := rfl
@[simp] theorem noteCall_csC (c : PortCall) : (noteCall c s).csC = s.csC := rfl
@[simp] theorem noteCall_csD (c : PortCall) : (noteCall c s).csD = s.csD := rfl
@[simp] theorem noteCall_req (c : PortCall) : (noteCall c s).req = s.req := rfl
@[simp] theorem noteCall_chsel (c : PortCall) : (noteCall c s).chsel = s.chsel := rfl
@[simp] theorem noteCall_emitted (c : PortCall) : (noteCall c s).emitted = s.emitted := rfl
@[simp] theorem noteCall_out (c : PortCall) : (noteCall c s).out = s.out := rfl
@[simp] theorem noteCall_flat (c : PortCall) : (noteCall c s).flat = s.flat := rfl
@[simp] theorem noteCall_ph (c : PortCall) : (noteCall c s).ph = s.ph := rfl
@[simp] theorem noteCall_hdr (c : PortCall) : (noteCall c s).hdr = s.hdr := rfl
@[simp] theorem noteCall_busy (c : PortCall) : (noteCall c s).busy = s.busy := rfl
@[simp] theorem noteCall_cmd (c : PortCall) : (noteCall c s).cmd = s.cmd := rfl
@[simp] theorem noteCall_params (c : PortCall) : (noteCall c s).params = s.params := rfl
@[simp] theorem noteCall_env (c : PortCall) : (noteCall c s).env = { s.env with calls := s.env.calls ++ [c] } := rfl
@[simp] theorem noteCall_freeTick (c : PortCall) : (noteCall c s).freeTick = s.freeTick := rfl

@[simp] theorem textArrive_sb (bs : Bytes) : (textArrive bs s).sb = s.sb := rfl
@[simp] theorem textArrive_sbValid (bs : Bytes) : (textArrive bs s).sbValid = s.sbValid := rfl
@[simp] theorem textArrive_csC (bs : Bytes) : (textArrive bs s).csC = s.csC := rfl
@[simp] theorem textArrive_csD (bs : Bytes) : (textArrive bs s).csD = s.csD := rfl
@[simp] theorem textArrive_req (bs : Bytes) : (textArrive bs s).req = s.req := rfl
@[simp] theorem textArrive_chsel (bs : Bytes) : (textArrive bs s).chsel = s.chsel := rfl
@[simp] theorem textArrive_emitted (bs : Bytes) : (textArrive bs s).emitted = s.emitted := rfl
@[simp] theorem textArrive_out (bs : Bytes) : (textArrive bs s).out = s.out := rfl
@[simp] theorem textArrive_flat (bs : Bytes) : (textArrive bs s).flat = s.flat := rfl
@[simp] theorem textArrive_ph (bs : Bytes) : (textArrive bs s).ph = s.ph := rfl
@[simp] theorem textArrive_hdr (bs : Bytes) : (textArrive bs s).hdr = s.hdr := rfl
@[simp] theorem textArrive_busy (bs : Bytes) : (textArrive bs s).busy = s.busy := rfl
@[simp] theorem textArrive_cmd (bs : Bytes) : (textArrive bs s).cmd = s.cmd := rfl
@[simp] theorem textArrive_params (bs : Bytes) : (textArrive bs s).params = s.params := rfl
@[simp] theorem textArrive_env (bs : Bytes) : (textArrive bs s).env = { s.env with textRx := s.env.textRx ++ bs } := rfl
@[simp] theorem textArrive_freeTick (bs : Bytes) : (textArrive bs s).freeTick = s.freeTick := rfl

@[simp] theorem binArrive_sb (bs : Bytes) : (binArrive bs s).sb = s.sb := rfl
@[simp] theorem binArrive_sbValid (bs : Bytes) : (binArrive bs s).sbValid = s.sbValid := rfl
@[simp] theorem binArrive_csC (bs : Bytes) : (binArrive bs s).csC = s.csC := rfl
@[simp] theorem binArrive_csD (bs : Bytes) : (binArrive bs s).csD = s.csD := rfl
@[simp] theorem binArrive_req (bs : Bytes) : (binArrive bs s).req = s.req := rfl
@[simp] theorem binArrive_chsel (bs : Bytes) : (binArrive bs s).chsel = s.chsel := rfl
@[simp] theorem binArrive_emitted (bs : Bytes) : (binArrive bs s).emitted = s.emitted := rfl
@[simp] theorem binArrive_out (bs : Bytes) : (binArrive bs s).out = s.out := rfl
@[simp] theorem binArrive_flat (bs : Bytes) : (binArrive bs s).flat = s.flat := rfl
@[simp] theorem binArrive_ph (bs : Bytes) : (binArrive bs s).ph = s.ph := rfl
@[simp] theorem binArrive_hdr (bs : Bytes) : (binArrive bs s).hdr = s.hdr := rfl
@[simp] theorem binArrive_busy (bs : Bytes) : (binArrive bs s).busy = s.busy := rfl
@[simp] theorem binArrive_cmd (bs : Bytes) : (binArrive bs s).cmd = s.cmd := rfl
@[simp] theorem binArrive_params (bs : Bytes) : (binArrive bs s).params = s.params := rfl
@[simp] theorem binArrive_env (bs : Bytes) : (binArrive bs s).env = { s.env with binRx := s.env.binRx ++ bs } := rfl
@[simp] theorem binArrive_freeTick (bs : Bytes) : (binArrive bs s).freeTick = s.freeTick := rfl

@[simp] theorem clearInput_sb : (clearInput s).sb = s.sb := rfl
@[simp] theorem clearInput_sbValid : (clearInput s).sbValid = s.sbValid := rfl
@[simp] theorem clearInput_csC : (clearInput s).csC = s.csC := rfl
@[simp] theorem clearInput_csD : (clearInput s).csD = s.csD := rfl
@[simp] theorem clearInput_req : (clearInput s).req = s.req := rfl
@[simp] theorem clearInput_chsel : (clearInput s).chsel = s.chsel := rfl
@[simp] theorem clearInput_emitted : (clearInput s).emitted = s.emitted := rfl
@[simp] theorem clearInput_out : (clearInput s).out = s.out := rfl
@[simp] theorem clearInput_flat : (clearInput s).flat = s.flat := rfl
@[simp] theorem clearInput_ph : (clearInput s).ph = s.ph := rfl
@[simp] theorem clearInput_hdr : (clearInput s).hdr = s.hdr := rfl
@[simp] theorem clearInput_busy : (clearInput s).busy = s.busy := rfl
@[simp] theorem clearInput_cmd : (clearInput s).cmd = s.cmd := rfl
@[simp] theorem clearInput_params : (clearInput s).params = s.params := rfl
@[simp] theorem clearInput_env : (clearInput s).env = { s.env with input := none } := rfl
@[simp] theorem clearInput_freeTick : (clearInput s).freeTick = s.freeTick := rfl

@[simp] theorem finishPull_sb : (finishPull s).sb = s.sb := rfl
@[simp] theorem finishPull_sbValid : (finishPull s).sbValid = s.sbValid := rfl
@[simp] theorem finishPull_csC : (finishPull s).csC = s.csC := rfl
@[simp] theorem finishPull_csD : (finishPull s).csD = s.csD := rfl
@[simp] theorem finishPull_req : (finishPull s).req = Config.freeReq s.freeTick := rfl
@[simp] theorem finishPull_chsel : (finishPull s).chsel = Config.freeChsel s.freeTick := rfl
@[simp] theorem finishPull_emitted : (finishPull s).emitted = s.emitted := rfl
@[simp] theorem finishPull_out : (finishPull s).out = s.out := rfl
@[simp] theorem finishPull_flat : (finishPull s).flat = Config.freeFlat s.freeTick := rfl
@[simp] theorem finishPull_ph : (finishPull s).ph = .idle := rfl
@[simp] theorem finishPull_hdr : (finishPull s).hdr = Config.freeHdr s.freeTick := rfl
@[simp] theorem finishPull_busy : (finishPull s).busy = false := rfl
@[simp] theorem finishPull_cmd : (finishPull s).cmd = s.cmd := rfl
@[simp] theorem finishPull_params : (finishPull s).params = s.params := rfl
@[simp] theorem finishPull_env : (finishPull s).env = { s.env with results := s.env.results ++ [.ok (orient s.flat s.out)] } := rfl
@[simp] theorem finishPull_freeTick : (finishPull s).freeTick = s.freeTick + 1 := rfl

@[simp] theorem raisePull_sb (e : Err) : (raisePull e s).sb = s.sb := rfl
@[simp] theorem raisePull_sbValid (e : Err) : (raisePull e s).sbValid = s.sbValid := rfl
@[simp] theorem raisePull_csC (e : Err) : (raisePull e s).csC = s.csC := rfl
@[simp] theorem raisePull_csD (e : Err) : (raisePull e s).csD = s.csD := rfl
@[simp] theorem raisePull_req (e : Err) : (raisePull e s).req = Config.freeReq s.freeTick := rfl
@[simp] theorem raisePull_chsel (e : Err) : (raisePull e s).chsel = Config.freeChsel s.freeTick := rfl
@[simp] theorem raisePull_emitted (e : Err) : (raisePull e s).emitted = s.emitted := rfl
@[simp] theorem raisePull_out (e : Err) : (raisePull e s).out = Config.freeOut (s.freeTick + 1) := rfl
@[simp] theorem raisePull_flat (e : Err) : (raisePull e s).flat = Config.freeFlat s.freeTick := rfl
@[simp] theorem raisePull_ph (e : Err) : (raisePull e s).ph = .idle := rfl
@[simp] theorem raisePull_hdr (e : Err) : (raisePull e s).hdr = Config.freeHdr s.freeTick := rfl
@[simp] theorem raisePull_busy (e : Err) : (raisePull e s).busy = false := rfl
@[simp] theorem raisePull_cmd (e : Err) : (raisePull e s).cmd = s.cmd := rfl
@[simp] theorem raisePull_params (e : Err) : (raisePull e s).params = s.params := rfl
@[simp] theorem raisePull_env (e : Err) : (raisePull e s).env = { s.env with results := s.env.results ++ [.err e] } := rfl
@[simp] theorem raisePull_freeTick (e : Err) : (raisePull e s).freeTick = s.freeTick + 1 + 1 := rfl

end Sys2Proof.Machine
end

