-- ==== Sys2Proof/Laws/Memory.lean ====
section
/-! SUPPORT. The StreamBuffer: its form is kept by every operation over it, and its view as address and byte pairs is
canonical (addresses strictly rising, an unlisted address reads as no value). -/

namespace Sys2Proof.Machine

theorem Memory.wf_iff (cap : Option Nat) (m : Memory) :
    Memory.wf cap m = true ↔ ∀ c, cap = some c → m.length ≤ c := by
  cases cap <;> simp [Memory.wf]

/-- A memory no longer than a well-formed one is well formed. -/
theorem Memory.wf_of_length_le {cap : Option Nat} {m n : Memory} (h : Memory.wf cap m = true)
    (hle : n.length ≤ m.length) : Memory.wf cap n = true := by
  rw [Memory.wf_iff] at *
  exact fun c hc => le_trans hle (h c hc)

@[simp] theorem Memory.wf_nil (cap : Option Nat) : Memory.wf cap [] = true := by
  cases cap <;> simp [Memory.wf]

theorem clip_wf (cap : Option Nat) (bs : Bytes) : Memory.wf cap (clip cap bs) = true := by
  cases cap <;> simp [Memory.wf, clip]

/-- Everything `SBAppend` can do. -/
theorem sbAppend_next {bs : Bytes} {s t : State} (h : sbAppend bs s = .next t) :
    t = setSb (s.sb ++ bs) s ∧ Memory.wf s.params.sbCap (s.sb ++ bs) = true := by
  unfold sbAppend at h
  split at h
  · next hw => exact ⟨by injection h with h; exact h.symm, hw⟩
  · cases h

theorem sbAppend_not_fault {bs : Bytes} {s : State} {r : Fault} : sbAppend bs s ≠ .fault r := by
  unfold sbAppend; split <;> simp

/-- Everything `SBDrop` can do. -/
theorem sbDrop_next {n : Nat} {s t : State} (h : sbDrop n s = .next t) :
    t = setSb (s.sb.drop n) s ∧ n ≤ s.sb.length := by
  unfold sbDrop at h
  split at h
  · next hn => exact ⟨by injection h with h; exact h.symm, hn⟩
  · cases h

theorem sbAppend_wf {bs : Bytes} {s t : State} (h : sbAppend bs s = .next t) :
    Memory.wf t.params.sbCap t.sb = true := by
  obtain ⟨rfl, hw⟩ := sbAppend_next h
  exact hw

theorem sbDrop_wf {n : Nat} {s t : State} (hs : Memory.wf s.params.sbCap s.sb = true) (h : sbDrop n s = .next t) :
    Memory.wf t.params.sbCap t.sb = true := by
  obtain ⟨rfl, -⟩ := sbDrop_next h
  exact Memory.wf_of_length_le hs (by simp)

theorem forgetSb_wf (s : State) : Memory.wf (forgetSb s).params.sbCap (forgetSb s).sb = true := by
  simpa using clip_wf s.params.sbCap (Config.freeSb s.freeTick)

/-- The byte of an address in the pair view is the byte of that position. -/
theorem Memory.cells_mem (m : Memory) (a : Nat) (b : Byte) : (a, b) ∈ m.cells ↔ m[a]? = some b := by
  simp only [Memory.cells, List.mem_map, Prod.exists, Prod.mk.injEq]
  constructor
  · rintro ⟨x, i, hx, rfl, rfl⟩
    simpa using (List.mem_zipIdx_iff_getElem?.mp hx)
  · intro h
    exact ⟨b, a, List.mem_zipIdx_iff_getElem?.mpr (by simpa using h), rfl, rfl⟩

/-- The addresses of the pair view rise strictly. -/
theorem Memory.cells_sorted (m : Memory) : (m.cells.map Prod.fst).Pairwise (· < ·) := by
  have h : m.cells.map Prod.fst = List.range m.length := by
    apply List.ext_getElem <;> simp [Memory.cells]
  rw [h]
  exact List.pairwise_lt_range

end Sys2Proof.Machine
end

