-- ==== Sys2Proof/Laws/Ops.lean ====
section
/-! SUPPORT. One lemma per shared operation that says everything it can do; the proofs cite it and do not unfold the
operation. -/

namespace Sys2Proof.Machine

/-- Two environments agree on everything a port primitive leaves alone. -/
structure Env.Frame (e e' : Env) : Prop where
  input : e'.input = e.input
  agenda : e'.agenda = e.agenda
  results : e'.results = e.results

theorem Env.Frame.refl (e : Env) : Env.Frame e e := ⟨rfl, rfl, rfl⟩

theorem Env.Frame.trans {a b c : Env} (h : Env.Frame a b) (k : Env.Frame b c) : Env.Frame a c :=
  ⟨k.input.trans h.input, k.agenda.trans h.agenda, k.results.trans h.results⟩

/-- Acceptance goes on only when BUSY = 0. -/
theorem accept_eq {s : State} {k : State → Out} (h : s.busy = false) : accept s k = k (setBusy true s) := by
  simp [accept, h]

theorem accept_busy {s : State} {k : State → Out} (h : s.busy = true) : accept s k = .refused .busy := by
  simp [accept, h]

theorem accept_next {s t : State} {k : State → Out} (h : accept s k = .next t) :
    s.busy = false ∧ k (setBusy true s) = .next t := by
  unfold accept at h
  split at h
  · cases h
  · next hb => exact ⟨by simpa using hb, h⟩

theorem accept_not_fault {s : State} {k : State → Out} {r : Fault}
    (hk : ∀ u, k u ≠ .fault r) : accept s k ≠ .fault r := by
  unfold accept; split
  · simp
  · exact hk _

/-- The end of an operation, whatever its result: one result more, BUSY = 0; an error sets PH to IDLE. -/
theorem conclude_eq (r : Result) (s : State) :
    conclude r s = present r (match r with | .ok _ => s | .err _ => setPh .idle s) := by
  cases r <;> rfl

@[simp] theorem conclude_busy (r : Result) (s : State) : (conclude r s).busy = false := by cases r <;> rfl
@[simp] theorem conclude_results (r : Result) (s : State) :
    (conclude r s).env.results = s.env.results ++ [r] := by cases r <;> rfl
@[simp] theorem conclude_sb (r : Result) (s : State) : (conclude r s).sb = s.sb := by cases r <;> rfl
@[simp] theorem conclude_sbValid (r : Result) (s : State) : (conclude r s).sbValid = s.sbValid := by cases r <;> rfl
@[simp] theorem conclude_csC (r : Result) (s : State) : (conclude r s).csC = s.csC := by cases r <;> rfl
@[simp] theorem conclude_csD (r : Result) (s : State) : (conclude r s).csD = s.csD := by cases r <;> rfl
@[simp] theorem conclude_params (r : Result) (s : State) : (conclude r s).params = s.params := by cases r <;> rfl
theorem conclude_ph (r : Result) (s : State) (h : s.ph = .idle) : (conclude r s).ph = .idle := by
  cases r <;> simp [conclude, h]

/-- Every port primitive changes the environment alone, and of it only what lies behind the port. -/
theorem callConnect_state (w : Channel) (a b c : Bytes) (s : State) :
    ∃ e, (callConnect w a b c s).2 = setEnv e s ∧ Env.Frame s.env e
      ∧ e.calls = s.env.calls ++ [.connect w a b c] := by
  unfold callConnect
  cases h : s.env.connectAns <;> simp only [noteCall, setEnv, h] <;>
    exact ⟨_, rfl, ⟨rfl, rfl, rfl⟩, rfl⟩

theorem txC_state (bs : Bytes) (s : State) :
    ∃ e, (txC bs s).2 = setEnv e s ∧ Env.Frame s.env e ∧ e.calls = s.env.calls ++ [.tx bs] := by
  unfold txC nextTx
  cases h : s.env.txAns <;> simp only [noteCall, setEnv, h] <;> split <;> exact ⟨_, rfl, ⟨rfl, rfl, rfl⟩, rfl⟩

theorem callDisconnect_state (w : Channel) (s : State) :
    ∃ e, callDisconnect w s = setEnv e s ∧ Env.Frame s.env e ∧ e.calls = s.env.calls ++ [.disconnect w] := by
  cases w <;> exact ⟨_, rfl, ⟨rfl, rfl, rfl⟩, rfl⟩

theorem nextText_state (s : State) :
    ∃ e, (nextText s).2 = setEnv e s ∧ Env.Frame s.env e ∧ e.calls = s.env.calls ∧ e.textRx = s.env.textRx := by
  unfold nextText
  cases h : s.env.textAns <;> exact ⟨_, rfl, ⟨rfl, rfl, rfl⟩, rfl, rfl⟩

theorem rxAvailC_state (s : State) :
    ∃ e, (rxAvailC s).2 = setEnv e s ∧ Env.Frame s.env e ∧ e.calls = s.env.calls ++ [.rxAvail] := by
  obtain ⟨e, he, hf, hc, -⟩ := nextText_state (noteCall .rxAvail s)
  have hf' : Env.Frame s.env e := (⟨rfl, rfl, rfl⟩ : Env.Frame s.env (noteCall .rxAvail s).env).trans hf
  unfold rxAvailC
  rcases hp : nextText (noteCall .rxAvail s) with ⟨a, u⟩
  rw [hp] at he
  obtain rfl : u = setEnv e (noteCall .rxAvail s) := he
  cases a with
  | fail c => exact ⟨e, rfl, hf', hc⟩
  | bytes bs => exact ⟨_, rfl, ⟨hf'.input, hf'.agenda, hf'.results⟩, hc⟩

theorem nextChunk_state (s : State) :
    ∃ e, (nextChunk s).2 = setEnv e s ∧ Env.Frame s.env e ∧ e.calls = s.env.calls ∧ e.binRx = s.env.binRx := by
  unfold nextChunk
  cases h : s.env.chunkAns <;> exact ⟨_, rfl, ⟨rfl, rfl, rfl⟩, rfl, rfl⟩

theorem rxD_state (n : Nat) (s : State) :
    ∃ e, (rxD n s).2 = setEnv e s ∧ Env.Frame s.env e ∧ e.calls = s.env.calls ++ [.rxD n] := by
  obtain ⟨e, he, hf, hc, -⟩ := nextChunk_state (noteCall (.rxD n) s)
  have hf' : Env.Frame s.env e := (⟨rfl, rfl, rfl⟩ : Env.Frame s.env (noteCall (.rxD n) s).env).trans hf
  unfold rxD
  rcases hp : nextChunk (noteCall (.rxD n) s) with ⟨a, u⟩
  rw [hp] at he
  obtain rfl : u = setEnv e (noteCall (.rxD n) s) := he
  cases a with
  | timeout => exact ⟨e, rfl, hf', hc⟩
  | eof => exact ⟨e, rfl, hf', hc⟩
  | fail c => exact ⟨e, rfl, hf', hc⟩
  | arrive fresh most => exact ⟨_, rfl, ⟨hf'.input, hf'.agenda, hf'.results⟩, hc⟩

/-- What CONNECT_C does to the block: CS_C alone (R161). -/
theorem connectCRun_state (a b c : Bytes) (s : State) (h : s.csC = .down) :
    ∃ e l, (connectCRun a b c s).2 = setCsC l (setEnv e s) ∧ Env.Frame s.env e := by
  obtain ⟨e, he, hf, -⟩ := callConnect_state .text a b c s
  unfold connectCRun
  rcases hp : callConnect .text a b c s with ⟨ans, u⟩
  rw [hp] at he
  obtain rfl : u = setEnv e s := he
  cases ans with
  | fail cause => exact ⟨e, .down, by simp [setCsC, setEnv, ← h], hf⟩
  | done =>
    obtain ⟨e', he', hf', -⟩ := rxAvailC_state (setCsC .up (setEnv e s))
    rcases hq : rxAvailC (setCsC .up (setEnv e s)) with ⟨ans', u'⟩
    rw [hq] at he'
    obtain rfl : u' = setEnv e' (setCsC .up (setEnv e s)) := he'
    simp only [hq]
    cases ans' with
    | fail cause => exact ⟨e', .dead, rfl, hf.trans hf'⟩
    | bytes bs => exact ⟨e', .up, rfl, hf.trans hf'⟩

/-- What SEND does to the block: CMD, and CS_C on a transport failure (R161). -/
theorem sendRun_state (cmd : Bytes) (s : State) (h : s.csC = .up) :
    ∃ e l, (sendRun cmd s).2 = setCsC l (setEnv e (setCmd cmd s)) ∧ Env.Frame s.env e ∧ (l = .up ∨ l = .dead) := by
  obtain ⟨e, he, hf, -⟩ := txC_state (frameCommand cmd) (setCmd cmd s)
  unfold sendRun
  simp only [setCmd_cmd]
  rcases hp : txC (frameCommand cmd) (setCmd cmd s) with ⟨ans, u⟩
  rw [hp] at he
  obtain rfl : u = setEnv e (setCmd cmd s) := he
  cases ans with
  | fail cause => exact ⟨e, .dead, rfl, hf, .inr rfl⟩
  | done =>
    obtain ⟨e', he', hf', -⟩ := rxAvailC_state (settle (setEnv e (setCmd cmd s)))
    rcases hq : rxAvailC (settle (setEnv e (setCmd cmd s))) with ⟨ans', u'⟩
    rw [hq] at he'
    obtain rfl : u' = setEnv e' (settle (setEnv e (setCmd cmd s))) := he'
    simp only
    have hf'' : Env.Frame s.env e' := hf.trans hf'
    cases ans' with
    | fail cause => exact ⟨e', .dead, rfl, hf'', .inr rfl⟩
    | bytes bs => exact ⟨e', .up, by simp [settle, setCsC, setEnv, setCmd, ← h], hf'', .inl rfl⟩

/-- What CONNECT_D does to the block (R170). -/
theorem connectDRun_state (a b c : Bytes) (s : State) :
    ∃ e, Env.Frame s.env e ∧
      ((∃ cause, connectDRun a b c s = (.err (.connection cause none), setEnv e s)) ∨
       connectDRun a b c s =
        (.ok .none, forgetHdr (setPh .idle (setSbValid true (setSb [] (setCsD .up (setEnv e s))))))) := by
  obtain ⟨e, he, hf, -⟩ := callConnect_state .binary a b c s
  refine ⟨e, hf, ?_⟩
  unfold connectDRun
  rcases hp : callConnect .binary a b c s with ⟨ans, u⟩
  rw [hp] at he
  obtain rfl : u = setEnv e s := he
  cases ans with
  | fail cause => exact .inl ⟨cause, rfl⟩
  | done => exact .inr rfl

/-- A PULL is accepted exactly under the preconditions of R174. -/
theorem pullAccept_next {n : Nat} {chs : List Nat} {s t : State} (h : pullAccept n chs s = .next t) :
    s.busy = false ∧ s.csD = .up ∧ s.sbValid = true ∧ chs ≠ [] ∧ chs.Nodup
      ∧ t = setPh .loop (latchPull n chs (setBusy true s)) := by
  obtain ⟨hb, h⟩ := accept_next h
  split at h
  · cases h
  split at h
  · cases h
  split at h
  · cases h
  split at h
  · cases h
  next hd hv hc hn =>
    injection h with h
    exact ⟨hb, by simpa using hd, by simpa using hv, by simpa using hc, by simpa using hn, h.symm⟩

theorem pullAccept_eq {n : Nat} {chs : List Nat} {s : State} (hb : s.busy = false) (hd : s.csD = .up)
    (hv : s.sbValid = true) (hc : chs ≠ []) (hn : chs.Nodup) :
    pullAccept n chs s = .next (setPh .loop (latchPull n chs (setBusy true s))) := by
  unfold pullAccept
  rw [accept_eq hb]
  simp [hd, hv, hc, hn]

theorem pullAccept_not_fault {n : Nat} {chs : List Nat} {s : State} {r : Fault} : pullAccept n chs s ≠ .fault r :=
  accept_not_fault fun u => by (repeat' split) <;> simp

end Sys2Proof.Machine
end

