-- ==== Sys2Proof/Laws/PerInstr.lean ====
section
/-! SUPPORT. Facts about every item as syntax, one lemma a constructor. `FirstByte`: the encoder's first byte is the item's
port and code, and the decoder finds that port again. -/

namespace Sys2Proof.Laws.FirstByte

/-- The encoding begins with the item's first byte, whose port is one of the five, and whose code is 0 but for requests
(R108; the layout is the model's, log 1). -/
def Statement (i : Instr) : Prop :=
  ∀ lit : Bool, i.wf lit = true →
    (encode lit i).head? = some (tagByte i)
    ∧ (tagByte i).toNat < 0x50
    ∧ ((tagByte i).toNat % 16 = 0 ∨ (tagByte i).toNat < 16)

theorem enc (name : Bytes) : Statement (.enc name) := fun _ _ => ⟨rfl, by simp [tagByte]⟩
theorem decr (raw sent : Bytes) : Statement (.decr raw sent) := fun _ _ => ⟨rfl, by simp [tagByte]⟩
theorem dech (h : Bytes) : Statement (.dech h) := fun _ _ => ⟨rfl, by simp [tagByte]⟩
theorem connectC (host port timeout : Bytes) : Statement (.connectC host port timeout) :=
  fun _ _ => ⟨rfl, by simp [tagByte]⟩
theorem send (cmd : Bytes) : Statement (.send cmd) := fun _ _ => ⟨rfl, by simp [tagByte]⟩
theorem disconnectC : Statement .disconnectC := fun _ _ => ⟨rfl, by simp [tagByte]⟩
theorem connectD (host port timeout : Bytes) : Statement (.connectD host port timeout) :=
  fun _ _ => ⟨rfl, by simp [tagByte]⟩
theorem pull (count : Nat) (chs : List Nat) : Statement (.pull count chs) := fun _ _ => ⟨rfl, by simp [tagByte]⟩
theorem disconnectD : Statement .disconnectD := fun _ _ => ⟨rfl, by simp [tagByte]⟩
theorem reservedOp (op : Nat) : Statement (.reservedOp op) := by
  intro lit h
  simp only [Instr.wf, Bool.and_eq_true, decide_eq_true_eq] at h
  refine ⟨rfl, ?_, ?_⟩ <;> simp only [tagByte, BitVec.toNat_ofNat] <;> omega
theorem acquire (sampling : Option Bytes) (count : Nat) (chs : List Nat) : Statement (.acquire sampling count chs) :=
  fun _ _ => ⟨rfl, by simp [tagByte]⟩
theorem cmdFrame (text : Bytes) : Statement (.cmdFrame text) := fun _ _ => ⟨rfl, by simp [tagByte]⟩
theorem respOk (sent payload trailer : Bytes) : Statement (.respOk sent payload trailer) :=
  fun _ _ => ⟨rfl, by simp [tagByte]⟩
theorem respUnknown (sent trailer : Bytes) : Statement (.respUnknown sent trailer) := fun _ _ => ⟨rfl, by simp [tagByte]⟩
theorem respWrong (sent trailer : Bytes) : Statement (.respWrong sent trailer) := fun _ _ => ⟨rfl, by simp [tagByte]⟩
theorem respMalformed (sent raw : Bytes) : Statement (.respMalformed sent raw) := fun _ _ => ⟨rfl, by simp [tagByte]⟩
theorem pkt (header : RawHeader) (payload : Bytes) : Statement (.pkt header payload) :=
  fun _ _ => ⟨rfl, by simp [tagByte]⟩

end Sys2Proof.Laws.FirstByte
end

