-- ==== Sys2Proof/Laws/Steps.lean ====
section
/-! SUPPORT. What a read and the instrument's taking of a frame do, and inversion: everything a micro-step can do when it
answers a next state. -/

namespace Sys2Proof.Machine

/-- Everything a call of RxD can answer; it changes the environment alone. -/
theorem rxD_answers (n : Nat) (s : State) :
    ∃ e, Env.Frame s.env e ∧ e.calls = s.env.calls ++ [.rxD n] ∧
      (rxD n s = (.timeout, setEnv e s) ∨ rxD n s = (.eof, setEnv e s) ∨ (∃ c, rxD n s = (.fail c, setEnv e s)) ∨
        ∃ bs, bs ≠ [] ∧ bs.length ≤ n ∧ rxD n s = (.chunk bs, setEnv e s)) := by
  obtain ⟨e, he, hf, hc⟩ := rxD_state n s
  refine ⟨e, hf, hc, ?_⟩
  rcases hq : rxD n s with ⟨a, u⟩
  rw [hq] at he
  obtain rfl : u = setEnv e s := he
  cases a with
  | timeout => exact .inl rfl
  | eof => exact .inr (.inl rfl)
  | fail c => exact .inr (.inr (.inl ⟨c, rfl⟩))
  | chunk bs =>
    refine .inr (.inr (.inr ⟨bs, ?_, ?_, rfl⟩)) <;>
    · unfold rxD at hq
      rcases hn : nextChunk (noteCall (.rxD n) s) with ⟨a, v⟩
      rw [hn] at hq
      cases a with
      | arrive fresh most =>
        simp only at hq
        split at hq
        · simp at hq
        · next hne =>
          obtain ⟨rfl, -⟩ := by simpa using hq
          first | exact fun h => hne (by simp [h]) | exact Nat.le_trans (List.length_take_le _ _) (Nat.min_le_left _ _)
      | _ => simp at hq

/-- A read whose decision is laid down: bytes arrive. -/
theorem rxD_arrive {s : State} {fresh : Bytes} {most : Nat} {rest : List ReadChoice}
    (h : s.env.chunkAns = .arrive fresh most :: rest) :
    rxD s.params.chunkMax s =
      (if (readBytes s fresh most).isEmpty then .eof else .chunk (readBytes s fresh most),
        afterRead s rest (leftBytes s fresh most)) := by
  simp only [rxD, nextChunk, noteCall, setEnv, h]; rfl

/-- A read whose decision is laid down: a timeout. -/
theorem rxD_timeout {s : State} {rest : List ReadChoice} (h : s.env.chunkAns = .timeout :: rest) :
    rxD s.params.chunkMax s = (.timeout, afterRead s rest s.env.binRx) := by
  simp only [rxD, nextChunk, noteCall, setEnv, h, afterRead]

/-- A read whose decision is laid down: the end of the stream. -/
theorem rxD_eof {s : State} {rest : List ReadChoice} (h : s.env.chunkAns = .eof :: rest) :
    rxD s.params.chunkMax s = (.eof, afterRead s rest s.env.binRx) := by
  simp only [rxD, nextChunk, noteCall, setEnv, h, afterRead]

/-- A read whose decision is laid down: a failure. -/
theorem rxD_fail {s : State} {cause : Bytes} {rest : List ReadChoice} (h : s.env.chunkAns = .fail cause :: rest) :
    rxD s.params.chunkMax s = (.fail cause, afterRead s rest s.env.binRx) := by
  simp only [rxD, nextChunk, noteCall, setEnv, h, afterRead]

/-- The instrument takes a frame that stands at the front of the outgoing stream. -/
theorem textTake_front {s : State} {bs rest : Bytes} (h : s.env.textTx = bs ++ rest) :
    textTake bs s = setEnv { s.env with textTx := rest } s := by
  simp [textTake, startsWith, h]

/-- Everything a micro-step does, guards included (R178 to R186). -/
inductive Micro (s : State) : State → Prop where
  | loopEnds (ph : s.ph = .loop) (h : s.req ≤ s.emitted) : Micro s (finishPull s)
  | loopGoesOn (ph : s.ph = .loop) (h : s.emitted < s.req) : Micro s (setPh .hdrWait s)
  | headerBuffered (ph : s.ph = .hdrWait) (h : 32 ≤ s.sb.length) : Micro s (setPh .hdrCheck s)
  | wholeBuffered (ph : s.ph = .payWait) (h : packetLen s.hdr ≤ s.sb.length) : Micro s (setPh .extract s)
  | reads (e : Env) (bs : Bytes) (frame : Env.Frame s.env e) (calls : e.calls = s.env.calls ++ [.rxD s.params.chunkMax])
      (ph : s.ph = .hdrWait ∧ s.sb.length < 32 ∨ s.ph = .payWait ∧ s.sb.length < packetLen s.hdr) (ne : bs ≠ [])
      (le : bs.length ≤ s.params.chunkMax) (fits : Memory.wf s.params.sbCap (s.sb ++ bs) = true) :
      Micro s (setSb (s.sb ++ bs) (setEnv e s))
  | shortReturn (e : Env) (frame : Env.Frame s.env e) (calls : e.calls = s.env.calls ++ [.rxD s.params.chunkMax])
      (ph : s.ph = .hdrWait) (h : s.sb.length < 32) : Micro s (finishPull (setEnv e s))
  | incomplete (e : Env) (frame : Env.Frame s.env e) (calls : e.calls = s.env.calls ++ [.rxD s.params.chunkMax])
      (ph : s.ph = .payWait) (h : s.sb.length < packetLen s.hdr) :
      Micro s (raisePull (.incompletePacket s.hdr s.sb.length (packetLen s.hdr))
        (forgetSb (setSbValid false (setEnv e s))))
  | fails (e : Env) (cause : Bytes) (frame : Env.Frame s.env e)
      (calls : e.calls = s.env.calls ++ [.rxD s.params.chunkMax])
      (ph : s.ph = .hdrWait ∧ s.sb.length < 32 ∨ s.ph = .payWait ∧ s.sb.length < packetLen s.hdr) :
      Micro s (raisePull (.connection cause none) (setCsD .dead (setEnv e s)))
  | outOfRange (h : Header) (ph : s.ph = .hdrCheck) (len : 32 ≤ s.sb.length) (hdr : h = decodeHeader (s.sb.take 32))
      (pairs : pairsRefused s.params h = false) (le : h.channelCount ≤ maxChannel s.chsel) :
      Micro s (raisePull (.channelOutOfRange (maxChannel s.chsel) h.channelCount h) (setHdr h s))
  | headerFits (h : Header) (ph : s.ph = .hdrCheck) (len : 32 ≤ s.sb.length) (hdr : h = decodeHeader (s.sb.take 32))
      (pairs : pairsRefused s.params h = false) (lt : maxChannel s.chsel < h.channelCount)
      (size : frameSizeWrong h = false) : Micro s (setPh .payWait (setHdr h s))
  | extracts (ph : s.ph = .extract)
      (h : framesReadable s.sb s.hdr.bytesPerFrame s.chsel (emitCount s) = true) :
      Micro s (setPh .drop (emit (projectFrames s.sb s.hdr.bytesPerFrame s.chsel (emitCount s)) s))
  | drops (ph : s.ph = .drop) (h : packetLen s.hdr ≤ s.sb.length) :
      Micro s (setPh .loop (forgetHdr (setSb (s.sb.drop (packetLen s.hdr)) s)))

theorem microStep_next {s t : State} (h : microStep s = .next t) : Micro s t := by
  unfold microStep at h
  split at h
  · cases h
  · next ph =>
    unfold microLoop at h
    split at h <;> (injection h with h; subst h)
    · exact .loopEnds ph ‹_›
    · exact .loopGoesOn ph (by omega)
  · next ph =>
    unfold microHdrWait at h
    split at h
    · injection h with h; subst h; exact .headerBuffered ph ‹_›
    · next hl =>
      have hl : s.sb.length < 32 := by simpa [Config.hdrLen] using hl
      obtain ⟨e, hf, hc, hq | hq | ⟨c, hq⟩ | ⟨bs, hne, hle, hq⟩⟩ := rxD_answers s.params.chunkMax s <;> rw [hq] at h
      · injection h with h; subst h; exact .shortReturn e hf hc ph hl
      · injection h with h; subst h; exact .shortReturn e hf hc ph hl
      · injection h with h; subst h; exact .fails e c hf hc (.inl ⟨ph, hl⟩)
      · obtain ⟨rfl, hw⟩ := sbAppend_next h; exact .reads e bs hf hc (.inl ⟨ph, hl⟩) hne hle hw
  · next ph =>
    unfold microHdrCheck at h
    split at h <;> [skip; cases h]
    next hr =>
    have hm : memRead s.sb 0 Config.hdrLen = s.sb.take 32 := by simp [memRead, slice, Config.hdrLen]
    have hl : 32 ≤ s.sb.length := by simpa [memReadable, Config.hdrLen] using hr
    rw [hm] at h
    unfold checkHeader at h
    split at h <;> [cases h; skip]
    next hp =>
    split at h
    · next hle => injection h with h; subst h; exact .outOfRange _ ph hl rfl (by simpa using hp) hle
    next hlt =>
    split at h <;> [cases h; skip]
    next hs => injection h with h; subst h; exact .headerFits _ ph hl rfl (by simpa using hp) (by omega) (by simpa using hs)
  · next ph =>
    unfold microPayWait at h
    split at h
    · injection h with h; subst h; exact .wholeBuffered ph ‹_›
    · next hl =>
      have hl : s.sb.length < packetLen s.hdr := by omega
      obtain ⟨e, hf, hc, hq | hq | ⟨c, hq⟩ | ⟨bs, hne, hle, hq⟩⟩ := rxD_answers s.params.chunkMax s <;> rw [hq] at h
      · injection h with h; subst h; exact .incomplete e hf hc ph hl
      · injection h with h; subst h; exact .incomplete e hf hc ph hl
      · injection h with h; subst h; exact .fails e c hf hc (.inr ⟨ph, hl⟩)
      · obtain ⟨rfl, hw⟩ := sbAppend_next h; exact .reads e bs hf hc (.inr ⟨ph, hl⟩) hne hle hw
  · next ph =>
    unfold microExtract at h
    split at h <;> [skip; cases h]
    injection h with h; subst h; exact .extracts ph ‹_›
  · next ph =>
    unfold microDrop andThen at h
    split at h
    · next u hu =>
      injection h with h; subst h
      obtain ⟨rfl, hle⟩ := sbDrop_next hu
      exact .drops ph hle
    · cases h
    · cases h

end Sys2Proof.Machine
end

