-- ==== Sys2Proof/Tests/Slice0.lean ====
section
/-! SUPPORT. The model's own tests. Expected results are those of spec/95_test_vectors.md (the vector is named in each
comment) or are written out by hand from the table of the rule named. -/

namespace Sys2Proof.Tests

open Sys2Proof Sys2Proof.Machine

/-! ## Helpers -/

/-- `STS`. -/
def sts : Bytes := [0x53, 0x54, 0x53]
/-- `FOO`. -/
def foo : Bytes := [0x46, 0x4F, 0x4F]
/-- CR LF. -/
def crLf : Bytes := [0x0D, 0x0A]
/-- A header with the tag `ABCD`, item 7, serial 1234, no reserved bytes; written out from R86. -/
def hdrBytes (presence frames stride counter : Byte) : Bytes :=
  [0x41, 0x42, 0x43, 0x44, 7, 0, 0, 0, 0xD2, 4, 0, 0, presence, 0, 0, 0, 0, 0, 0, 0, 0, 0, 0, 0,
    frames, 0, stride, 0, counter, 0, 0, 0]
/-- P1: two channels, three frames (10,20), (11,21), (12,22). -/
def p1 : Bytes :=
  hdrBytes 5 3 8 0x2A ++ [10, 0, 0, 0, 20, 0, 0, 0, 11, 0, 0, 0, 21, 0, 0, 0, 12, 0, 0, 0, 22, 0, 0, 0]
/-- P3: one channel, one frame (99). -/
def p3 : Bytes := hdrBytes 1 1 4 0x30 ++ [99, 0, 0, 0]
/-- The raw fields of P3. -/
def raw3 : RawHeader := ⟨[0x41, 0x42, 0x43, 0x44], 7, 1234, 1, [0, 0, 0, 0], 1, 4, 48⟩

/-- The text channel is connected. -/
def textUp : State := { State.reset with csC := .up }
/-- The binary channel is connected, SB holds `sb`. -/
def binUp (sb : Bytes) : State := { State.reset with csD := .up, sbValid := true, sb := sb }
/-- Answers for the text channel's calls. -/
def withText (cs : List DoneAnswer) (ds : List DoneAnswer) (ts : List TextAnswer) (s : State) : State :=
  { s with env := { s.env with connectAns := cs, txAns := ds, textAns := ts } }
/-- A PULL of `n` samples on `chs` in the phase `ph`, with HDR decoded from SB. -/
def pulling (ph : Phase) (n : Nat) (chs : List Nat) (sb : Bytes) : State :=
  { binUp sb with busy := true, ph := ph, req := n, chsel := chs, flat := flatOf chs, hdr := decodeHeader (sb.take 32) }

/-- The state after, if there is one. -/
def after (o : Out) : Option State :=
  match o with
  | .next s => some s
  | .fault _ => none
  | .refused _ => none
/-- The refusal, if there is one. -/
def refusal (o : Out) : Option Refusal :=
  match o with
  | .refused r => some r
  | .fault _ => none
  | .next _ => none
/-- The results presented. -/
def results (o : Out) : Option (List Result) := (after o).map fun s => s.env.results

/-! ## Well-formedness: each check refuses an ill-formed item -/

theorem test_wf_pull_empty : (Instr.pull 1 []).wf true = false := by decide
theorem test_wf_pull_duplicate : (Instr.pull 1 [2, 2]).wf true = false := by decide
theorem test_wf_acquire_empty : (Instr.acquire none 1 []).wf true = false := by decide
theorem test_wf_reserved_low : (Instr.reservedOp 8).wf true = false := by decide
theorem test_wf_reserved_high : (Instr.reservedOp 16).wf true = false := by decide
theorem test_wf_frame_crlf : (Instr.cmdFrame [0x53, 0x0D]).wf true = false := by decide
theorem test_wf_reply_trailers :
    (Instr.respOk sts [] [0x20]).wf true = false ∧ (Instr.respUnknown sts [0x20]).wf true = false
    ∧ (Instr.respWrong sts [0x20]).wf true = false := by decide
theorem test_wf_malformed_is_not_ok : (Instr.respMalformed sts (0x24 :: sts ++ litOk)).wf true = false := by decide
theorem test_wf_header_fields :
    (Instr.pkt { raw3 with preamble := [1, 2, 3] } [99, 0, 0, 0]).wf true = false
    ∧ (Instr.pkt { raw3 with itemNumber := 2147483648 } [99, 0, 0, 0]).wf true = false
    ∧ (Instr.pkt { raw3 with serialNumber := -2147483649 } [99, 0, 0, 0]).wf true = false
    ∧ (Instr.pkt { raw3 with presence := 2 ^ 64 } [99, 0, 0, 0]).wf true = false
    ∧ (Instr.pkt { raw3 with reserved := [] } [99, 0, 0, 0]).wf true = false
    ∧ (Instr.pkt { raw3 with frameCount := 65536 } [99, 0, 0, 0]).wf true = false
    ∧ (Instr.pkt { raw3 with bytesPerFrame := 65536 } [99, 0, 0, 0]).wf true = false
    ∧ (Instr.pkt { raw3 with frameCounter := 2147483648 } [99, 0, 0, 0]).wf true = false := by decide
theorem test_wf_payload_length : (Instr.pkt raw3 [99, 0, 0]).wf true = false := by decide

/-! ## Decoding: bytes written out from the tables of R81 to R86 and R108, one for each row -/

theorem test_decode_enc : decode true [0x00, 1, 0x53] = .instr (.enc [0x53]) [] := by decide
theorem test_decode_decr : decode true [0x01, 1, 0x24, 1, 0x53] = .instr (.decr [0x24] [0x53]) [] := by decide
theorem test_decode_dech : decode true [0x02, 2, 9, 8] = .instr (.dech [9, 8]) [] := by decide
theorem test_decode_connect_c : decode true [0x03, 1, 7, 1, 8, 1, 9] = .instr (.connectC [7] [8] [9]) [] := by decide
theorem test_decode_send : decode true [0x04, 2, 0x53, 0x54] = .instr (.send [0x53, 0x54]) [] := by decide
theorem test_decode_disconnect_c : decode true [0x05] = .instr .disconnectC [] := by decide
theorem test_decode_connect_d : decode true [0x06, 1, 7, 1, 8, 1, 9] = .instr (.connectD [7] [8] [9]) [] := by decide
theorem test_decode_pull : decode true [0x07, 0xAC, 2, 2, 1, 0, 0x55] = .instr (.pull 300 [1, 0]) [0x55] := by decide
theorem test_decode_disconnect_d : decode true [0x08] = .instr .disconnectD [] := by decide
theorem test_decode_reserved : decode true [0x09] = .instr (.reservedOp 9) [] := by decide
theorem test_decode_acquire :
    decode true [0x10, 1, 1, 0x53, 2, 1, 0] = .instr (.acquire (some [0x53]) 2 [0]) []
    ∧ decode true [0x10, 0, 2, 1, 0] = .instr (.acquire none 2 [0]) [] := by decide
theorem test_decode_cmd_frame : decode true [0x20, 0x24, 0x53, 0x54, 0x0D, 0x0A] = .instr (.cmdFrame [0x53, 0x54]) [] := by
  decide
/-- R131: `$STS` + `ABC` + `OK` + CR LF answers `STS`. -/
theorem test_decode_resp_ok :
    decode true [0x30, 3, 0x53, 0x54, 0x53, 11, 0x24, 0x53, 0x54, 0x53, 0x41, 0x42, 0x43, 0x4F, 0x4B, 0x0D, 0x0A]
      = .instr (.respOk sts [0x41, 0x42, 0x43] crLf) [] := by decide
theorem test_decode_resp_unknown :
    decode true ([0x30, 1, 0x53, 20, 0x24, 0x53, 0x24] ++
      [0x55, 0x4E, 0x4B, 0x4E, 0x4F, 0x57, 0x4E, 0x20, 0x43, 0x4F, 0x4D, 0x4D, 0x41, 0x4E, 0x44, 0x0D, 0x0A])
      = .instr (.respUnknown [0x53] crLf) [] := by decide
theorem test_decode_resp_wrong :
    decode true ([0x30, 1, 0x53, 18, 0x24, 0x53, 0x24] ++
      [0x57, 0x52, 0x4F, 0x4E, 0x47, 0x20, 0x50, 0x41, 0x52, 0x41, 0x4D, 0x45, 0x54, 0x45, 0x52])
      = .instr (.respWrong [0x53] []) [] := by decide
theorem test_decode_resp_malformed :
    decode true [0x30, 1, 0x53, 2, 0x24, 0x54] = .instr (.respMalformed [0x53] [0x24, 0x54]) [] := by decide
theorem test_decode_pkt : decode true (0x40 :: p3) = .instr (.pkt raw3 [99, 0, 0, 0]) [] := by decide

theorem test_decode_rejects :
    decode true [] = .reject .empty ∧ decode true [0x00] = .reject .truncated
    ∧ decode true [0x50] = .reject (.unknownPort 5) ∧ decode true [0x11] = .reject (.unknownCode 1 1)
    ∧ decode true [0x20, 0x23, 0x0D, 0x0A] = .reject .notACommandFrame
    ∧ decode true (0x40 :: p3.take 35) = .reject .truncated := by decide

/-- Words of the table: OP 7 and the rest zero; a header of zeros. -/
theorem test_table_words :
    decodeTableWord 8 7 = some (.pull 0 []) ∧ decodeTableWord 8 0x0F = some (.reservedOp 15)
    ∧ decodeTableWord 256 0 = some (.pkt ⟨[0, 0, 0, 0], 0, 0, 0, [0, 0, 0, 0], 0, 0, 0⟩ []) := by decide

/-! ## The Wire Codec -/

/-- R120, D10: CR and LF are removed wherever they stand. -/
theorem test_enc :
    results (exec (.enc [0x53, 0x0D, 0x54, 0x0A]) State.reset) = some [.ok (.bytes [0x24, 0x53, 0x54, 0x0D, 0x0A])] := by
  decide
/-- R131: a payload keeps its blanks. -/
theorem test_decr_ok :
    results (exec (.decr [0x24, 0x53, 0x20, 0x41, 0x20, 0x4F, 0x4B, 0x0A, 0x0D] [0x53]) State.reset)
      = some [.ok (.bytes [0x20, 0x41, 0x20])] := by decide
/-- R131: lower case `ok` is no success. -/
theorem test_decr_malformed :
    results (exec (.decr [0x24, 0x53, 0x6F, 0x6B] [0x53]) State.reset)
      = some [.err (.malformed [0x53] [0x24, 0x53, 0x6F, 0x6B])] := by decide
/-- V11: negative fields, and the eight bytes of the presence field. -/
theorem test_dech :
    results (exec (.dech ([0x41, 0x42, 0x43, 0x44, 0xFF, 0xFF, 0xFF, 0xFF, 0xFE, 0xFF, 0xFF, 0xFF] ++
      [0x15, 4, 0, 0, 0, 0, 0, 0, 0xAA, 0xBB, 0xCC, 0xDD, 2, 0, 16, 0, 0x9C, 0xFF, 0xFF, 0xFF])) State.reset)
      = some [.ok (.header ⟨⟨[0x41, 0x42, 0x43, 0x44], -1, -2, 1045, [0xAA, 0xBB, 0xCC, 0xDD], 2, 16, -100⟩, 4, 32⟩)] := by
  decide
/-- R134. -/
theorem test_dech_short : results (exec (.dech (p1.take 31)) State.reset) = some [.err (.headerTooShort 31)] := by decide

/-! ## The Command Channel -/

/-- R150, R152: a banner is drained; the channel is up. -/
theorem test_connect_c :
    (after (exec (.connectC [1] [2] [3]) (withText [.done] [] [.bytes [0x57]] State.reset))).map
      (fun t => (t.csC, t.env.textRx, t.env.results, t.env.calls))
      = some (.up, [], [.ok .none], [.connect .text [1] [2] [3], .rxAvail]) := by decide
theorem test_connect_c_fails :
    (after (exec (.connectC [] [] []) (withText [.fail [9]] [] [] State.reset))).map (fun t => (t.csC, t.env.results))
      = some (.down, [.err (.connection [9] none)]) := by decide
/-- R154: the reply `$STSOK` is decoded. -/
theorem test_send :
    (after (exec (.send sts) (withText [] [.done] [.bytes (0x24 :: sts ++ litOk ++ crLf)] textUp))).map
      (fun t => (t.csC, t.env.results, t.env.calls, t.env.textTx))
      = some (.up, [.ok (.bytes [])], [.tx (0x24 :: sts ++ crLf), .rxAvail], 0x24 :: sts ++ crLf) := by decide
/-- R157: a failed write is followed by no read and leaves DEAD. -/
theorem test_send_fails :
    (after (exec (.send sts) (withText [] [.fail [1]] [] textUp))).map (fun t => (t.csC, t.env.results, t.env.calls))
      = some (.dead, [.err (.connection [1] (some sts))], [.tx (0x24 :: sts ++ crLf)]) := by decide
/-- R160: from DEAD too. -/
theorem test_disconnect_c :
    (after (exec .disconnectC { textUp with csC := .dead })).map (fun t => (t.csC, t.env.results))
      = some (.down, [.ok .none]) := by decide

/-! ## The Stream Reassembler -/

theorem test_connect_d :
    (after (exec (.connectD [1] [2] [3]) (withText [.done] [] [] State.reset))).map
      (fun t => (t.csD, t.sb, t.sbValid, t.env.calls))
      = some (.up, [], true, [.connect .binary [1] [2] [3]]) := by decide
theorem test_disconnect_d :
    (after (exec .disconnectD (binUp p3))).map (fun t => (t.csD, t.sb, t.sbValid, t.env.results))
      = some (.down, [], false, [.ok .none]) := by decide
theorem test_pull_accepted :
    (after (exec (.pull 2 [1, 0]) (binUp p1))).map (fun t => (t.busy, t.ph, t.req, t.chsel, t.flat, t.sb.length))
      = some (true, .loop, 2, [1, 0], false, 56) := by decide
/-- R24: not on a buffer that cannot be trusted. -/
theorem test_pull_refused :
    refusal (exec (.pull 2 [0]) { binUp p1 with sbValid := false }) = some .sbInvalid := by decide
/-- V32 (the PULL of no samples). -/
theorem test_loop_ends : results (step (pulling .loop 0 [0] [])) = some [.ok (.scalars [])] := by decide
/-- V28: a timeout with 20 bytes of a header is a short return, and they stay. -/
theorem test_short_return :
    (after (step (layChunks [.timeout] (pulling .hdrWait 2 [0, 1] (p1.take 20))))).map
      (fun t => (t.env.results, t.sb.length, t.sbValid)) = some ([.ok (.tuples [])], 20, true) := by decide
/-- V26: channel 2 of two channels. -/
theorem test_channel_out_of_range :
    (after (step (pulling .hdrCheck 2 [0, 2] p1))).map (fun t => (t.env.results, t.sb.length))
      = some ([.err (.channelOutOfRange 2 2 (decodeHeader p1))], 56) := by decide
/-- R180: a pair `10`. -/
theorem test_reserved_pair : refusal (step (pulling .hdrCheck 1 [0] (hdrBytes 9 1 8 0))) = some .reservedPair := by decide
/-- R184: twelve bytes a frame for two channels. -/
theorem test_frame_size : refusal (step (pulling .hdrCheck 1 [0] (hdrBytes 5 1 12 0))) = some .frameSizeMismatch := by decide
/-- R183: a timeout with 40 of 56 bytes. -/
theorem test_incomplete :
    (after (step (layChunks [.timeout] (pulling .payWait 2 [0, 1] (p1.take 40))))).map
      (fun t => (t.env.results, t.sbValid))
      = some ([.err (.incompletePacket (decodeHeader p1) 40 56)], false) := by decide
/-- V22: the caller's channel order. -/
theorem test_extract :
    (after (step (pulling .extract 2 [1, 0] p1))).map (fun t => (t.out, t.emitted, t.ph))
      = some ([[20, 10], [21, 11]], 2, .drop) := by decide
theorem test_drop : (after (step (pulling .drop 2 [0] (p1 ++ p3)))).map (fun t => (t.sb, t.ph)) = some (p3, .loop) := by
  decide

/-! ## ACQUIRE, the unassigned codes, the wire -/

theorem test_acquire :
    (after (exec (.acquire (some sts) 2 [0])
      { withText [] [.done] [.bytes (0x24 :: sts ++ litOk)] textUp with csD := .up, sbValid := true })).map
      (fun t => (t.env.results, t.busy, t.ph)) = some ([.ok (.bytes [])], true, .loop) := by decide
theorem test_reserved_op : refusal (exec (.reservedOp 9) State.reset) = some (.unassignedOp 9) := by decide
/-- The frame is taken off the outgoing stream; the bytes after it stay. -/
theorem test_cmd_frame :
    (after (exec (.cmdFrame sts) { textUp with env := { Env.initial with textTx := 0x24 :: sts ++ crLf ++ [0x24] } })).map
      (fun t => (t.env.textTx, t.env.calls)) = some ([0x24], []) := by decide
/-- R249: a read may return fewer bytes than are there; the others stay. -/
theorem test_short_read :
    (after (step (layChunks [.arrive [7, 8, 9] 2] (pulling .hdrWait 1 [0] [])))).map (fun t => (t.sb, t.env.binRx))
      = some ([7, 8], [9]) := by decide
theorem test_resp_ok :
    (after (exec (.respOk sts [0x41] crLf) textUp)).map (fun t => t.env.textRx)
      = some (0x24 :: sts ++ [0x41, 0x4F, 0x4B, 0x0D, 0x0A]) := by decide
theorem test_resp_unknown :
    (after (exec (.respUnknown [] []) textUp)).map (fun t => t.env.textRx)
      = some [0x24, 0x24, 0x55, 0x4E, 0x4B, 0x4E, 0x4F, 0x57, 0x4E, 0x20, 0x43, 0x4F, 0x4D, 0x4D, 0x41, 0x4E, 0x44] := by
  decide
theorem test_resp_wrong :
    (after (exec (.respWrong [] []) textUp)).map (fun t => t.env.textRx)
      = some [0x24, 0x24, 0x57, 0x52, 0x4F, 0x4E, 0x47, 0x20, 0x50, 0x41, 0x52, 0x41, 0x4D, 0x45, 0x54, 0x45, 0x52] := by
  decide
theorem test_resp_malformed :
    (after (exec (.respMalformed sts [1, 2]) textUp)).map (fun t => t.env.textRx) = some [1, 2] := by decide
theorem test_pkt :
    (after (exec (.pkt raw3 [99, 0, 0, 0]) State.reset)).map (fun t => t.env.binRx) = some p3 := by decide
theorem test_fetch :
    results (step (State.reset.withFetchWord 8 0)) = some [.ok (.bytes [0x24, 0x0D, 0x0A])] := by decide

/-! ## Witnesses: for every statement with hypotheses, a state and operands that meet them all, clause by clause -/

/-- One well-formed item of every row. -/
theorem witness_EncodedItemsDecode :
    [Instr.enc [], .decr [] [], .dech [], .connectC [] [] [], .send [0x0D], .disconnectC, .connectD [] [] [], .pull 0 [0],
      .disconnectD, .reservedOp 9, .reservedOp 15, .acquire none 0 [0], .acquire (some []) 1 [1, 0], .cmdFrame [],
      .respOk [] [] [0x0D], .respUnknown [] [0x0A], .respWrong [] [], .respMalformed [] [],
      .pkt ⟨[0, 0, 0, 0], -2147483648, 2147483647, 18446744073709551615, [0, 0, 0, 0], 0, 65535, 0⟩ [], .pkt raw3 [99, 0, 0, 0]
      ].all (Instr.wf true) = true := by decide

theorem witness_StepRunsTheDecodedItem :
    (State.reset.withFetchWord 8 5).env.input = some (0x05 :: List.replicate 64 0)
    ∧ decode (State.reset.withFetchWord 8 5).params.errLiteralWithSentinel (0x05 :: List.replicate 64 0)
      = .instr .disconnectC (List.replicate 64 0)
    ∧ (State.reset.withFetchWord 8 0x50).env.input = some (0x50 :: List.replicate 64 0)
    ∧ decode (State.reset.withFetchWord 8 0x50).params.errLiteralWithSentinel (0x50 :: List.replicate 64 0)
      = .reject (.unknownPort 5) := by decide

/-- The three clauses: a running PULL, an idle block with an agenda, an idle block without one. -/
theorem witness_StepWithoutItem :
    ((pulling .loop 1 [0] []).env.input = none ∧ (pulling .loop 1 [0] []).busy = true)
    ∧ (State.reset.env.input = none ∧ State.reset.busy = false ∧ State.reset.env.agenda = [])
    ∧ ∃ s : State, s.env.input = none ∧ s.busy = false ∧ s.env.agenda = [0x05] :: [] :=
  ⟨by decide, by decide, { State.reset with env := { Env.initial with agenda := [[0x05]] } }, by decide⟩

/-- EncAnswersTheFrame, AcquireAnswers, WrongStateIsRefused: an idle block. -/
theorem witness_idle : State.reset.busy = false := rfl

/-- The four classes, of DecrAnswersTheClass. -/
theorem witness_DecrAnswersTheClass :
    State.reset.busy = false
    ∧ classify State.reset.params.errLiteralWithSentinel (0x24 :: sts ++ litOk) sts = .ok []
    ∧ classify State.reset.params.errLiteralWithSentinel (0x24 :: sts ++ 0x24 :: textUnknown) sts = .unknown
    ∧ classify State.reset.params.errLiteralWithSentinel (0x24 :: sts ++ 0x24 :: textWrong) sts = .wrong
    ∧ classify State.reset.params.errLiteralWithSentinel [] sts = .malformed := by decide

/-- The empty reply, and one with `OK` and a wrong echo. -/
theorem witness_EchoIsTestedFirst :
    State.reset.busy = false ∧ ¬ (0x24 :: sts) <+: rstripCrlf [] ∧ ¬ (0x24 :: sts) <+: rstripCrlf (0x24 :: foo ++ litOk) := by
  decide

theorem witness_DechDecodesTheFields : State.reset.busy = false ∧ 32 ≤ (p1.take 32).length ∧ 32 ≤ p1.length := by decide

/-- Zero and 31 bytes; a micro-step that answers a next state. -/
theorem witness_DechTooShort :
    State.reset.busy = false ∧ ([] : Bytes).length < 32 ∧ (p1.take 31).length < 32
    ∧ ∃ t, microStep (pulling .loop 1 [0] []) = .next t := ⟨rfl, by decide, by decide, _, rfl⟩

theorem witness_HeaderRoundTrip : raw3.wf = true ∧ 32 ≤ p1.length ∧ (p1.take 32).length = 32 := by decide

theorem witness_DecodedFieldsInRange : 32 ≤ (p1.take 32).length := by decide

theorem witness_PresenceBitsStandInTheirBytes : 0 < 64 ∧ 63 < 64 := by decide

/-- No channel, and all 32. -/
theorem witness_ChannelCountOfPlainFields :
    (0 < 2 ^ 64 ∧ hasReservedPair 0 = false) ∧ (0x5555555555555555 < 2 ^ 64 ∧ hasReservedPair 0x5555555555555555 = false) := by
  decide

/-- The three clauses. -/
theorem witness_ConnectCAnswers :
    State.reset.busy = false ∧ State.reset.csC = .down
    ∧ (withText [.fail [9]] [] [] State.reset).env.connectAns = .fail [9] :: []
    ∧ (withText [.done] [] [.fail [9]] State.reset).env.connectAns = .done :: []
    ∧ (withText [.done] [] [.fail [9]] State.reset).env.textAns = .fail [9] :: []
    ∧ (withText [.done] [] [.bytes []] State.reset).env.textAns = .bytes [] :: [] := by decide

/-- The three clauses. -/
theorem witness_SendAnswers :
    textUp.busy = false ∧ textUp.csC = .up
    ∧ (withText [] [.fail [9]] [] textUp).env.txAns = .fail [9] :: []
    ∧ (withText [] [.done] [.fail [9]] textUp).env.txAns = .done :: []
    ∧ (withText [] [.done] [.fail [9]] textUp).env.textAns = .fail [9] :: []
    ∧ (withText [] [.done] [.bytes []] textUp).env.textAns = .bytes [] :: []
    ∧ takeMax (withText [] [.done] [.bytes []] textUp).params.cmdReadMax [] = [] := by decide

theorem witness_DisconnectCAnswers :
    textUp.busy = false ∧ textUp.csC ≠ .down ∧ { textUp with csC := .dead }.csC ≠ .down := by decide

/-- The three operations. -/
theorem witness_CommandChannelFrame :
    (State.reset.busy = false ∧ State.reset.ph = .idle ∧ State.reset.csC = .down)
    ∧ (textUp.busy = false ∧ textUp.ph = .idle ∧ textUp.csC = .up)
    ∧ (textUp.csC ≠ .down ∧ { textUp with csC := .dead }.csC ≠ .down) := by decide

theorem witness_ArrivedRepliesDecode :
    (withText [] [.done] [.bytes []] textUp).busy = false ∧ (withText [] [.done] [.bytes []] textUp).csC = .up
    ∧ (withText [] [.done] [.bytes []] textUp).params.cmdReadMax = none
    ∧ (withText [] [.done] [.bytes []] textUp).env.textRx = []
    ∧ (withText [] [.done] [.bytes []] textUp).env.txAns = .done :: []
    ∧ (withText [] [.done] [.bytes []] textUp).env.textAns = .bytes [] :: []
    ∧ (∀ b ∈ crLf, isCrlf b = true)
    ∧ classify (withText [] [.done] [.bytes []] textUp).params.errLiteralWithSentinel [0x41] sts = .malformed := by decide

theorem witness_StaleBytesSpoilTheReply :
    ∃ s : State, s.busy = false ∧ s.csC = .up ∧ s.env.textRx = 0x57 :: [] ∧ (0x57 : Byte) ≠ 0x24
      ∧ s.env.txAns = .done :: [] ∧ s.env.textAns = .bytes (0x24 :: sts ++ litOk) :: [] :=
  ⟨textArrive [0x57] (withText [] [.done] [.bytes (0x24 :: sts ++ litOk)] textUp), by decide⟩

/-- Its clauses: CS_C not DOWN and not UP, CS_D likewise, SBVALID = 0, a duplicate. -/
theorem witness_WrongStateIsRefused :
    (textUp.busy = false ∧ textUp.csC ≠ .down) ∧ ((binUp []).busy = false ∧ (binUp []).csD ≠ .down)
    ∧ (State.reset.busy = false ∧ State.reset.csC = .down ∧ State.reset.csD = .down
      ∧ State.reset.csC ≠ .up ∧ State.reset.csD ≠ .up)
    ∧ ({ binUp [] with sbValid := false }.csD = .up ∧ { binUp [] with sbValid := false }.sbValid = false)
    ∧ ((binUp []).csD = .up ∧ (binUp []).sbValid = true ∧ ([1, 1] : List Nat) ≠ [] ∧ ¬ ([1, 1] : List Nat).Nodup) := by decide

theorem witness_BusyRefusesEveryRequest :
    (pulling .loop 1 [0] []).busy = true ∧ isRequest (.enc []) = true ∧ isRequest (.acquire none 1 [0]) = true := by decide

theorem witness_UnassignedCodesAreRefused : (9 ≤ 9 ∧ 9 ≤ 15) ∧ (9 ≤ 15 ∧ 15 ≤ 15) := by decide

theorem witness_ConnectDAnswers :
    State.reset.busy = false ∧ State.reset.csD = .down
    ∧ (withText [.fail [9]] [] [] State.reset).env.connectAns = .fail [9] :: []
    ∧ (withText [.done] [] [] State.reset).env.connectAns = .done :: [] := by decide

theorem witness_DisconnectDAnswers :
    (binUp p3).busy = false ∧ (binUp p3).csD ≠ .down ∧ { binUp p3 with csD := .dead }.csD ≠ .down := by decide

/-- PullIsAccepted, and PullOfNothing with the count 0. -/
theorem witness_PullIsAccepted :
    (binUp p1).busy = false ∧ (binUp p1).csD = .up ∧ (binUp p1).sbValid = true ∧ ([1, 0] : List Nat) ≠ []
    ∧ ([1, 0] : List Nat).Nodup ∧ (binUp p1).env.input = none := by decide

/-- The two clauses, where they meet: EMITTED = REQ = 0, and REQ = 1. -/
theorem witness_LoopTests :
    ((pulling .loop 0 [0] []).env.input = none ∧ (pulling .loop 0 [0] []).busy = true ∧ (pulling .loop 0 [0] []).ph = .loop
      ∧ (pulling .loop 0 [0] []).req ≤ (pulling .loop 0 [0] []).emitted)
    ∧ ((pulling .loop 1 [0] []).env.input = none ∧ (pulling .loop 1 [0] []).busy = true
      ∧ (pulling .loop 1 [0] []).ph = .loop ∧ (pulling .loop 1 [0] []).emitted < (pulling .loop 1 [0] []).req) := by decide

/-- The clauses at 32 and at 31 bytes: a chunk that fits SB_CAP, one that does not, a timeout, the end, a failure. -/
theorem witness_HeaderWaitReads :
    ((pulling .hdrWait 1 [0] (p1.take 32)).env.input = none ∧ (pulling .hdrWait 1 [0] (p1.take 32)).busy = true
      ∧ (pulling .hdrWait 1 [0] (p1.take 32)).ph = .hdrWait ∧ 32 ≤ (pulling .hdrWait 1 [0] (p1.take 32)).sb.length)
    ∧ ((pulling .hdrWait 1 [0] (p1.take 31)).sb.length < 32
      ∧ readBytes (pulling .hdrWait 1 [0] (p1.take 31)) [7] 1 ≠ []
      ∧ Memory.wf (pulling .hdrWait 1 [0] (p1.take 31)).params.sbCap
          ((pulling .hdrWait 1 [0] (p1.take 31)).sb ++ readBytes (pulling .hdrWait 1 [0] (p1.take 31)) [7] 1) = true)
    ∧ (∃ p : Params, Memory.wf p.sbCap (p1.take 31 ++ readBytes (pulling .hdrWait 1 [0] (p1.take 31)) [7] 1) = false)
    ∧ ([ReadChoice.arrive [7] 1, .arrive [] 1, .arrive [7] 0, .timeout, .eof, .fail [1]].all fun a =>
        (layChunks [a] (pulling .hdrWait 1 [0] (p1.take 31))).env.chunkAns == [a]) = true :=
  ⟨by decide, by decide, ⟨{ Params.initial with sbCap := some 31 }, by decide⟩, by decide⟩

/-- The four clauses: a pair `10`; `m` equal to channel_count; a frame of the wrong size; a header that fits, `m` one below
channel_count. -/
theorem witness_HeaderCheckDecides :
    ((pulling .hdrCheck 1 [0] (hdrBytes 9 1 8 0)).env.input = none ∧ (pulling .hdrCheck 1 [0] (hdrBytes 9 1 8 0)).busy = true
      ∧ (pulling .hdrCheck 1 [0] (hdrBytes 9 1 8 0)).ph = .hdrCheck
      ∧ 32 ≤ (pulling .hdrCheck 1 [0] (hdrBytes 9 1 8 0)).sb.length
      ∧ State.reset.params.pairReservedPolicy = .refuse
      ∧ hasReservedPair (decodeHeader ((hdrBytes 9 1 8 0).take 32)).presence = true)
    ∧ (hasReservedPair (decodeHeader (p1.take 32)).presence = false
      ∧ (decodeHeader (p1.take 32)).channelCount ≤ maxChannel [0, 2] ∧ maxChannel [0, 1] < (decodeHeader (p1.take 32)).channelCount)
    ∧ (hasReservedPair (decodeHeader ((hdrBytes 5 1 12 0).take 32)).presence = false
      ∧ maxChannel [0] < (decodeHeader ((hdrBytes 5 1 12 0).take 32)).channelCount
      ∧ 0 < (decodeHeader ((hdrBytes 5 1 12 0).take 32)).frameCount
      ∧ (decodeHeader ((hdrBytes 5 1 12 0).take 32)).bytesPerFrame
          ≠ 4 * (decodeHeader ((hdrBytes 5 1 12 0).take 32)).channelCount) := by decide

/-- P1 fits the channels 0 and 1: the last clause of HeaderCheckDecides. -/
theorem witness_HeaderFits : HeaderFits State.reset.params [0, 1] (decodeHeader (p1.take 32)) :=
  ⟨by decide, by decide, by decide⟩

/-- P3 fits channel 0. -/
theorem witness_HeaderFits_one : HeaderFits State.reset.params [0] (decodeHeader p3) := ⟨by decide, by decide, by decide⟩

/-- The clauses at 56 and at 55 of 56 bytes. -/
theorem witness_PayloadWaitReads :
    ((pulling .payWait 2 [0, 1] p1).env.input = none ∧ (pulling .payWait 2 [0, 1] p1).busy = true
      ∧ (pulling .payWait 2 [0, 1] p1).ph = .payWait
      ∧ 32 + (pulling .payWait 2 [0, 1] p1).hdr.payloadSize ≤ (pulling .payWait 2 [0, 1] p1).sb.length)
    ∧ ((pulling .payWait 2 [0, 1] (p1.take 55)).sb.length < 32 + (pulling .payWait 2 [0, 1] (p1.take 55)).hdr.payloadSize
      ∧ readBytes (pulling .payWait 2 [0, 1] (p1.take 55)) [7] 1 ≠ []
      ∧ Memory.wf (pulling .payWait 2 [0, 1] (p1.take 55)).params.sbCap (p1.take 55 ++ [7]) = true)
    ∧ (∃ p : Params, Memory.wf p.sbCap (p1.take 55 ++ readBytes (pulling .payWait 2 [0, 1] (p1.take 55)) [7] 1) = false)
    ∧ ([ReadChoice.arrive [7] 1, .arrive [] 1, .arrive [7] 0, .timeout, .eof, .fail [1]].all fun a =>
        (layChunks [a] (pulling .payWait 2 [0, 1] (p1.take 55))).env.chunkAns == [a]) = true :=
  ⟨by decide, by decide, ⟨{ Params.initial with sbCap := some 55 }, by decide⟩, by decide⟩

/-- A PULL in EXTRACT with the whole of P1 buffered. -/
theorem witness_consistent_extract : Consistent (pulling .extract 2 [0, 1] p1) where
  params := by decide
  cap := by decide
  phase := by decide
  down := by decide
  live := by decide
  latches := by decide
  count := by decide
  tuples := by decide
  wants := by decide
  header := by decide
  hdr := fun _ => ⟨by decide, by decide, witness_HeaderFits⟩
  whole := by decide

/-- A PULL in the phases without a header, where SB may be anything. -/
theorem witness_consistent_early (ph : Phase) (n : Nat) (chs : List Nat) (sb : Bytes) (hp : ph = .loop ∨ ph = .hdrWait)
    (hc : chs ≠ [] ∧ chs.Nodup) (hn : 0 < n ∨ ph = .loop) : Consistent (pulling ph n chs sb) where
  params := (by decide : Params.initial.wf)
  cap := rfl
  phase := by rcases hp with rfl | rfl <;> simp [pulling]
  down := by simp [pulling, binUp]
  live := fun _ => ⟨rfl, rfl⟩
  latches := fun _ => ⟨hc.1, hc.2, rfl⟩
  count := fun _ => ⟨rfl, Nat.zero_le _⟩
  tuples := by simp [pulling, binUp, State.reset]
  wants := by rcases hp with rfl | rfl <;> simp_all [pulling, Phase.wants, binUp, State.reset]
  header := by rcases hp with rfl | rfl <;> simp [pulling]
  hdr := by rcases hp with rfl | rfl <;> simp [pulling, Phase.hdrValid]
  whole := by rcases hp with rfl | rfl <;> simp [pulling, Phase.whole]

theorem witness_ExtractProjects :
    (pulling .extract 2 [0, 1] p1).env.input = none ∧ (pulling .extract 2 [0, 1] p1).ph = .extract
    ∧ Consistent (pulling .extract 2 [0, 1] p1) := ⟨rfl, rfl, witness_consistent_extract⟩

theorem witness_DropRemovesThePacket :
    (pulling .drop 2 [0, 1] p1).env.input = none ∧ (pulling .drop 2 [0, 1] p1).busy = true
    ∧ (pulling .drop 2 [0, 1] p1).ph = .drop
    ∧ 32 + (pulling .drop 2 [0, 1] p1).hdr.payloadSize ≤ (pulling .drop 2 [0, 1] p1).sb.length := by decide

/-- Both reads return bytes. -/
theorem witness_ReadsAreBoundedAndOrdered :
    (∃ u, rxD 1 (layChunks [.arrive [7, 8] 2] (binUp [])) = (.chunk [7], u))
    ∧ (1 ≤ 1 ∧ 1 ≤ 4 ∧ 1 ≤ ((binUp []).env.binRx ++ [7, 8]).length)
    ∧ ∃ u, rxAvailC (withText [] [] [.bytes [7]] textUp) = (.bytes [7], u) := ⟨⟨_, rfl⟩, by decide, _, rfl⟩

/-- ReadsOnlyOnNeed, EveryPassMakesProgress, OneResultPerOperation, StickyConditions, BufferChangesOnlyAtItsEnds: a
micro-step of a consistent state that answers a next state and goes on. -/
theorem witness_micro_step :
    Consistent (pulling .extract 2 [0, 1] p1) ∧ (pulling .extract 2 [0, 1] p1).busy = true
    ∧ ∃ t, microStep (pulling .extract 2 [0, 1] p1) = .next t ∧ t.busy = true ∧ t.ph = .drop :=
  ⟨witness_consistent_extract, rfl, _, rfl, rfl, rfl⟩

/-- PullEndsInFiveWays: a PULL ends, by its count and by a short return. -/
theorem witness_PullEndsInFiveWays :
    (Consistent (pulling .loop 0 [0] []) ∧ ∃ t, microStep (pulling .loop 0 [0] []) = .next t ∧ t.busy = false)
    ∧ (Consistent (pulling .hdrWait 1 [0] [])
      ∧ ∃ t, microStep (layChunks [.eof] (pulling .hdrWait 1 [0] [])) = .next t ∧ t.busy = false) :=
  ⟨⟨witness_consistent_early _ _ _ _ (.inl rfl) (by decide) (.inr rfl), _, rfl, rfl⟩,
    witness_consistent_early _ _ _ _ (.inr rfl) (by decide) (.inl (by decide)), _, rfl, rfl⟩

/-- A connected, idle binary channel is consistent whatever SB holds. -/
theorem witness_consistent_idle (sb : Bytes) : Consistent (binUp sb) where
  params := (by decide : Params.initial.wf)
  cap := rfl
  phase := by simp [binUp, State.reset]
  down := by simp [binUp]
  live := by simp [binUp, State.reset]
  latches := by simp [binUp, State.reset]
  count := by simp [binUp, State.reset]
  tuples := by simp [binUp, State.reset]
  wants := by simp [binUp, State.reset, Phase.wants]
  header := by simp [binUp, State.reset]
  hdr := by simp [binUp, State.reset, Phase.hdrValid]
  whole := by simp [binUp, State.reset, Phase.whole]

theorem witness_OutOfRangeRepeats :
    Consistent (binUp p1) ∧ HostSilent (binUp p1) ∧ (binUp p1).busy = false ∧ (binUp p1).csD = .up
    ∧ (binUp p1).sbValid = true ∧ ([0, 2] : List Nat) ≠ [] ∧ ([0, 2] : List Nat).Nodup ∧ 0 < 1 ∧ 32 ≤ (binUp p1).sb.length
    ∧ hasReservedPair (decodeHeader (binUp p1).sb).presence = false
    ∧ (decodeHeader (binUp p1).sb).channelCount ≤ maxChannel [0, 2] :=
  ⟨witness_consistent_idle p1, ⟨rfl, rfl⟩, by decide, by decide, by decide, by decide, by decide, by decide, by decide,
    by decide, by decide⟩

/-- ErrorKindsPerOperation: an operation and a micro-step that end in an error. -/
theorem witness_ErrorKindsPerOperation :
    (∃ t, exec (.dech []) State.reset = .next t ∧ t.env.results = State.reset.env.results ++ [.err (.headerTooShort 0)])
    ∧ ∃ s t : State, microStep s = .next t ∧ t.env.results = s.env.results ++ [.err (.connection [1] none)] :=
  ⟨⟨_, rfl, rfl⟩, layChunks [.fail [1]] (pulling .hdrWait 1 [0] []), _, rfl, rfl⟩

/-- StickyConditions: a dead channel, and an invalid buffer, before an operation that answers a next state. -/
theorem witness_StickyConditions :
    ∃ s t : State, s.csC = .dead ∧ s.csD = .dead ∧ s.sbValid = false ∧ exec (.enc []) s = .next t :=
  ⟨{ State.reset with csC := .dead, csD := .dead }, _, rfl, rfl, rfl, rfl⟩

/-- ParametersNeverChange, ChannelsAreIndependent, StepKeepsConsistent, NoFaultFromConsistentStates: a step of a consistent
state. -/
theorem witness_step :
    Consistent (binUp []) ∧ ∃ t, step (binUp []) = .next t := ⟨witness_consistent_idle [], _, rfl⟩

/-- AcquireAnswers: a SEND that ends in an error, and one that succeeds. -/
theorem witness_AcquireAnswers :
    (∃ t, exec (.send sts) (withText [] [.fail [1]] [] textUp) = .next t
      ∧ t.env.results = textUp.env.results ++ [.err (.connection [1] (some sts))])
    ∧ ∃ t, exec (.send sts) (withText [] [.done] [.bytes (0x24 :: sts ++ litOk)] textUp) = .next t
      ∧ t.env.results = textUp.env.results ++ [.ok (.bytes [])] := ⟨⟨_, rfl, by decide⟩, _, rfl, by decide⟩

theorem witness_AcquireCompletes :
    ∃ s : State, s.busy = false ∧ s.csC = .up ∧ s.csD = .up ∧ s.sbValid = true ∧ ([0] : List Nat) ≠ []
      ∧ ([0] : List Nat).Nodup := ⟨{ binUp [] with csC := .up }, by decide⟩

/-- A frame at the front of the outgoing stream, and none. -/
theorem witness_WireRowsPass :
    (∃ s : State, s.env.textTx = 0x24 :: removeCrlf sts ++ [0x0D, 0x0A] ++ [])
    ∧ ¬ (0x24 :: removeCrlf sts ++ [0x0D, 0x0A]) <+: State.reset.env.textTx :=
  ⟨⟨{ textUp with env := { Env.initial with textTx := 0x24 :: sts ++ crLf } }, by decide⟩, by decide⟩

/-- P3 whole, and P3 arriving in two pieces and read in two others; one run of each ends the PULL. -/
theorem witness_ChunkIndependence :
    Consistent (pulling .loop 1 [0] []) ∧ HostSilent (pulling .loop 1 [0] [])
    ∧ (∀ c ∈ [wholeRead p3], isChunk c) ∧ (∀ d ∈ [ReadChoice.arrive (p3.take 20) 15, .arrive (p3.drop 20) 21], isChunk d)
    ∧ chunkBytes [wholeRead p3] = chunkBytes [.arrive (p3.take 20) 15, .arrive (p3.drop 20) 21]
    ∧ (∃ t, core.run 8 (layChunks [wholeRead p3] (pulling .loop 1 [0] [])) = .next t ∧ t.busy = false
      ∧ t.env.oracleTick = 0)
    ∧ ∃ u, core.run 9 (layChunks [.arrive (p3.take 20) 15, .arrive (p3.drop 20) 21] (pulling .loop 1 [0] [])) = .next u
      ∧ u.busy = false ∧ u.env.oracleTick = 0 :=
  ⟨witness_consistent_early _ _ _ _ (.inl rfl) (by decide) (.inr rfl), ⟨rfl, rfl⟩,
    fun c h => by rw [List.mem_singleton.mp h]; exact ⟨_, _, rfl, by decide, by decide⟩,
    fun d h => by
      rcases List.mem_cons.mp h with rfl | h
      · exact ⟨_, _, rfl, by decide, by decide⟩
      · rw [List.mem_singleton.mp h]; exact ⟨_, _, rfl, by decide, by decide⟩,
    by decide, ⟨_, rfl, by decide, by decide⟩, _, rfl, by decide, by decide⟩

/-- A PULL that begins, with `answers` laid down. -/
theorem witness_PullStarts (n : Nat) (answers : List ReadChoice) : PullStarts (layChunks answers (pulling .loop n [0] [])) where
  consistent :=
    let c := witness_consistent_early .loop n [0] [] (.inl rfl) (by decide) (.inr rfl)
    ⟨c.params, c.cap, c.phase, c.down, c.live, c.latches, c.count, c.tuples, c.wants, c.header, c.hdr, c.whole⟩
  busy := rfl
  ph := rfl
  emitted := rfl
  silent := ⟨rfl, rfl⟩

theorem witness_WholePacket : WholePacket State.reset.params [0] p3 := ⟨by decide, by decide, witness_HeaderFits_one⟩

/-- PullReachesItsCount: one packet, one sample asked, then a timeout. -/
theorem witness_PullReachesItsCount :
    StreamOf (layChunks [wholeRead p3, .timeout] (pulling .loop 1 [0] [])) [p3] [p3] []
    ∧ 1 ≤ ([p3].flatMap (packetFrames [0])).length :=
  ⟨⟨by decide, rfl, rfl, by decide, fun p h => by rw [List.mem_singleton.mp h]; exact witness_WholePacket⟩, by decide⟩

/-- PullReturnsShort: one packet and 31 bytes, two samples asked, then the end of the stream. -/
theorem witness_PullReturnsShort :
    StreamOf (layChunks [wholeRead p3, wholeRead (p3.take 31), .eof] (pulling .loop 2 [0] [])) [p3, p3.take 31] [p3] (p3.take 31)
    ∧ ([p3].flatMap (packetFrames [0])).length < 2 ∧ (p3.take 31).length < 32 :=
  ⟨⟨by decide, rfl, rfl, by decide, fun p h => by rw [List.mem_singleton.mp h]; exact witness_WholePacket⟩, by decide,
    by decide⟩

/-- PullEndsIncomplete: one packet and 35 of 36 bytes, two samples asked. -/
theorem witness_PullEndsIncomplete :
    StreamOf (layChunks [wholeRead p3, wholeRead (p3.take 35), .eof] (pulling .loop 2 [0] [])) [p3, p3.take 35] [p3] (p3.take 35)
    ∧ ([p3].flatMap (packetFrames [0])).length < 2 ∧ 32 ≤ (p3.take 35).length
    ∧ HeaderFits State.reset.params [0] (decodeHeader (p3.take 35))
    ∧ (p3.take 35).length < packetLen (decodeHeader (p3.take 35)) :=
  ⟨⟨by decide, rfl, rfl, by decide, fun p h => by rw [List.mem_singleton.mp h]; exact witness_WholePacket⟩, by decide,
    by decide, ⟨by decide, by decide, by decide⟩, by decide⟩

end Sys2Proof.Tests
end

section
/-! PROOFS. The trailing strip and the little-endian reads: O7 and O16. -/

namespace Sys2Proof.Machine

/-! ## The trailing strip (R15, R126) -/

theorem rstripCrlf_cons (b : Byte) (bs : Bytes) :
    rstripCrlf (b :: bs) = if rstripCrlf bs = [] ∧ isCrlf b = true then [] else b :: rstripCrlf bs := by
  rw [rstripCrlf]
  cases rstripCrlf bs with
  | nil => cases isCrlf b <;> rfl
  | cons c cs => simp

theorem trailerOf_cons (b : Byte) (bs : Bytes) :
    trailerOf (b :: bs) = if rstripCrlf bs = [] ∧ isCrlf b = true then b :: trailerOf bs else trailerOf bs := by
  unfold trailerOf
  rw [rstripCrlf_cons]
  split
  · next h => simp [h.1]
  · simp

/-- The strip takes its run off the end. -/
theorem rstripCrlf_append_trailerOf (s : Bytes) : rstripCrlf s ++ trailerOf s = s := by
  induction s with
  | nil => rfl
  | cons b bs ih =>
    rw [rstripCrlf_cons, trailerOf_cons]
    split
    · next h => simpa [h.1] using ih
    · simpa using ih

theorem isCrlf_of_mem_trailerOf {s : Bytes} {b : Byte} (h : b ∈ trailerOf s) : isCrlf b = true := by
  induction s with
  | nil => cases h
  | cons c bs ih =>
    rw [trailerOf_cons] at h
    split at h
    · next hc =>
      rcases List.mem_cons.mp h with rfl | h
      · exact hc.2
      · exact ih h
    · exact ih h

theorem isCrlf_of_rstripCrlf_getLast? {s : Bytes} {b : Byte} (h : (rstripCrlf s).getLast? = some b) :
    isCrlf b = false := by
  induction s with
  | nil => cases h
  | cons c bs ih =>
    rw [rstripCrlf_cons] at h
    split at h
    · cases h
    · next hc =>
      cases hr : rstripCrlf bs with
      | nil =>
        obtain rfl : c = b := by simpa [hr] using h
        simpa [hr] using hc
      | cons d ds =>
        rw [hr, List.getLast?_cons_cons, ← hr] at h
        exact ih h

/-! ## Little-endian reads (R11, R50, R53) -/

theorem le32u_eq_le16u (s : Bytes) (o : Nat) : le32u s o = le16u s o + 65536 * le16u s (o + 2) := by
  simp only [le32u, le16u, Nat.add_assoc, Nat.reduceAdd]
  omega

theorem le64u_eq_le32u (s : Bytes) (o : Nat) : le64u s o = le32u s o + 2 ^ 32 * le32u s (o + 4) := by
  simp only [le64u, le32u, Nat.add_assoc, Nat.reduceAdd]
  omega

/-- Sign extension changes a value by a multiple of 2^32 alone. -/
theorem sext32_sub_emod (v : Nat) : (sext32 v - (v : Int)) % 2 ^ 32 = 0 := by
  unfold sext32
  split <;> omega

theorem isInt32_iff (v : Int) : isInt32 v = true ↔ -2 ^ 31 ≤ v ∧ v < 2 ^ 31 := by
  simp [isInt32]

end Sys2Proof.Machine

open Sys2Proof.Machine

/-- Settles O7: the run is `trailerOf raw`; its laws are by induction on the reply. -/
theorem stripRemovesTheLongestRun : Obligations.StripRemovesTheLongestRun := by
  intro raw
  refine ⟨trailerOf raw, (rstripCrlf_append_trailerOf raw).symm, fun b hb => ?_, fun b hb => ?_⟩
  · exact (isCrlf_iff b).mp (isCrlf_of_mem_trailerOf hb)
  · have hn : ¬ (b = 0x0D ∨ b = 0x0A) := by
      rw [← isCrlf_iff, isCrlf_of_rstripCrlf_getLast? hb]
      exact Bool.false_ne_true
    exact not_or.mp hn

/-- Settles O16. -/
theorem littleEndianReadsAgree : Obligations.LittleEndianReadsAgree := fun s o =>
  ⟨le32u_eq_le16u s o, le64u_eq_le32u s o, sext32_sub_emod (le32u s o), (isInt32_iff _).mp (le32s_isInt32 s o)⟩

end

section
/-! PROOFS. No item is ever a fault, and no micro-step of a consistent running state is: O53. -/

namespace Sys2Proof.Machine

/-! ## The samples of a whole packet stand in SB (R60, R185) -/

theorem le_maxChannel {chs : List Nat} {c : Nat} (h : c ∈ chs) : c ≤ maxChannel chs := by
  induction chs with
  | nil => cases h
  | cons d ds ih =>
    rcases List.mem_cons.mp h with rfl | h
    · exact Nat.le_max_left _ _
    · exact (ih h).trans (Nat.le_max_right _ _)

/-- A sample of a requested channel lies within its frame, and so within the packet. -/
theorem sampleAddr_within_packet {p : Params} {chs : List Nat} {h : Header} {k c : Nat} (fits : HeaderFits p chs h)
    (size : h.payloadSize = h.frameCount * h.bytesPerFrame) (hk : k < h.frameCount) (hc : c ∈ chs) :
    sampleAddr h.bytesPerFrame k c + Config.sampleBytes ≤ packetLen h := by
  have hcount : c < h.channelCount := (le_maxChannel hc).trans_lt fits.channels
  have hstride : h.bytesPerFrame = 4 * h.channelCount := fits.frames (by omega)
  have hframe : (k + 1) * h.bytesPerFrame ≤ h.frameCount * h.bytesPerFrame := Nat.mul_le_mul_right _ hk
  rw [Nat.add_mul, Nat.one_mul] at hframe
  simp only [sampleAddr, frameAddr, packetLen, size, Config.sampleBytes]
  omega

theorem framesReadable_of_whole {p : Params} {chs : List Nat} {h : Header} {sb : Bytes} {n : Nat}
    (fits : HeaderFits p chs h) (size : h.payloadSize = h.frameCount * h.bytesPerFrame)
    (whole : packetLen h ≤ sb.length) (hn : n ≤ h.frameCount) :
    framesReadable sb h.bytesPerFrame chs n = true := by
  simp only [framesReadable, List.all_eq_true, List.mem_range, memReadable, decide_eq_true_eq]
  intro k hk c hc
  exact (sampleAddr_within_packet fits size (by omega) hc).trans whole

/-! ## Items -/

theorem acquireAfterSend_not_fault {r : Result} {n : Nat} {chs : List Nat} {s : State} {f : Fault} :
    acquireAfterSend r n chs s ≠ .fault f := by
  cases r with
  | ok v => exact pullAccept_not_fault
  | err e => exact nofun

/-- No item is a fault, whatever the state: an item answers a next state or a refusal. -/
theorem exec_not_fault (i : Instr) (s : State) (f : Fault) : exec i s ≠ .fault f := by
  cases i with
  | enc | decr =>
    unfold exec
    dsimp only [execEnc, execDecr]
    exact accept_not_fault fun _ => nofun
  | dech | connectC | send | disconnectC | connectD | disconnectD =>
    unfold exec
    dsimp only [execDech, execConnectC, execSend, execDisconnectC, execConnectD, execDisconnectD]
    exact accept_not_fault fun _ => by split <;> exact nofun
  | pull => exact pullAccept_not_fault
  | acquire sampling =>
    cases sampling with
    | none => exact pullAccept_not_fault
    | some cmd =>
      unfold exec execAcquire
      refine accept_not_fault fun _ => ?_
      split
      · exact acquireAfterSend_not_fault
      · exact nofun
  | reservedOp | cmdFrame | respOk | respUnknown | respWrong | respMalformed | pkt => exact nofun

theorem stepItem_not_fault (bs : Bytes) (s : State) (f : Fault) : stepItem bs s ≠ .fault f := by
  unfold stepItem
  split
  · exact exec_not_fault _ _ f
  · exact nofun

/-! ## Micro-steps -/

theorem microLoop_not_fault (s : State) (f : Fault) : microLoop s ≠ .fault f := by
  unfold microLoop
  split <;> exact nofun

theorem microHdrWait_not_fault (s : State) (f : Fault) : microHdrWait s ≠ .fault f := by
  unfold microHdrWait
  split
  · exact nofun
  · dsimp only
    split
    · exact sbAppend_not_fault
    all_goals exact nofun

theorem microPayWait_not_fault (s : State) (f : Fault) : microPayWait s ≠ .fault f := by
  unfold microPayWait
  split
  · exact nofun
  · dsimp only
    split
    · exact sbAppend_not_fault
    all_goals exact nofun

theorem checkHeader_not_fault (h : Header) (s : State) (f : Fault) : checkHeader h s ≠ .fault f := by
  unfold checkHeader
  repeat' split
  all_goals exact nofun

theorem microHdrCheck_not_fault {s : State} (header : 32 ≤ s.sb.length) (f : Fault) : microHdrCheck s ≠ .fault f := by
  have hread : memReadable s.sb 0 Config.hdrLen = true := by simpa [memReadable, Config.hdrLen] using header
  rw [microHdrCheck, if_pos hread]
  exact checkHeader_not_fault _ s f

theorem microExtract_not_fault {s : State}
    (readable : framesReadable s.sb s.hdr.bytesPerFrame s.chsel (emitCount s) = true) (f : Fault) :
    microExtract s ≠ .fault f := by
  rw [microExtract, if_pos readable]
  exact nofun

theorem microDrop_not_fault {s : State} (whole : packetLen s.hdr ≤ s.sb.length) (f : Fault) :
    microDrop s ≠ .fault f := by
  rw [microDrop, sbDrop, if_pos whole]
  exact nofun

/-- The reads of EXTRACT are defined in a consistent state (R185). -/
theorem Consistent.framesReadable {s : State} (hs : Consistent s) (ph : s.ph = .extract) :
    framesReadable s.sb s.hdr.bytesPerFrame s.chsel (emitCount s) = true := by
  obtain ⟨-, hdr, fits⟩ := hs.hdr (by rw [ph]; rfl)
  have size : s.hdr.payloadSize = s.hdr.frameCount * s.hdr.bytesPerFrame := by rw [hdr]; rfl
  exact framesReadable_of_whole fits size (hs.whole (by rw [ph]; rfl)) (Nat.min_le_left _ _)

theorem microStep_not_fault {s : State} (hs : Consistent s) (hb : s.busy = true) (f : Fault) :
    microStep s ≠ .fault f := by
  unfold microStep
  cases ph : s.ph with
  | idle => exact absurd ph (hs.phase.mp hb)
  | loop => exact microLoop_not_fault s f
  | hdrWait => exact microHdrWait_not_fault s f
  | hdrCheck => exact microHdrCheck_not_fault (hs.header ph) f
  | payWait => exact microPayWait_not_fault s f
  | extract => exact microExtract_not_fault (hs.framesReadable ph) f
  | drop => exact microDrop_not_fault (hs.whole (by rw [ph]; rfl)) f

end Sys2Proof.Machine

open Sys2Proof.Machine

/-- Settles O53: the invariant gives HDR_CHECK its header, EXTRACT and DROP the whole packet, and a phase while BUSY = 1. -/
theorem noFaultFromConsistentStates : Obligations.NoFaultFromConsistentStates := by
  intro s f hs
  unfold step
  split
  · exact stepItem_not_fault _ s f
  · split
    · next hb => exact microStep_not_fault hs hb f
    · exact nofun

end

section
/-! PROOFS. Inversion of an item's meaning, as `Micro` is for a micro-step, and what every step keeps: O49. -/

namespace Sys2Proof.Machine

/-- Everything an item does when it answers a next state, guards included. -/
inductive Ran (s : State) : Instr → State → Prop where
  | enc (name : Bytes) (idle : s.busy = false) :
      Ran s (.enc name) (finish (.bytes (frameCommand name)) (setBusy true s))
  | decr (raw sent : Bytes) (idle : s.busy = false) :
      Ran s (.decr raw sent)
        (conclude (replyResult (classify s.params.errLiteralWithSentinel raw sent) sent raw) (setBusy true s))
  | dechShort (h : Bytes) (idle : s.busy = false) (short : h.length < 32) :
      Ran s (.dech h) (raise (.headerTooShort h.length) (setBusy true s))
  | dech (h : Bytes) (idle : s.busy = false) (len : 32 ≤ h.length) :
      Ran s (.dech h) (finish (.header (decodeHeader h)) (setBusy true s))
  | connectC (host port timeout : Bytes) (idle : s.busy = false) (down : s.csC = .down) :
      Ran s (.connectC host port timeout)
        (conclude (connectCRun host port timeout (setBusy true s)).1 (connectCRun host port timeout (setBusy true s)).2)
  | send (cmd : Bytes) (idle : s.busy = false) (up : s.csC = .up) :
      Ran s (.send cmd) (conclude (sendRun cmd (setBusy true s)).1 (forgetCmd (sendRun cmd (setBusy true s)).2))
  | disconnectC (idle : s.busy = false) (held : s.csC ≠ .down) :
      Ran s .disconnectC (finish .none (setCsC .down (callDisconnect .text (setBusy true s))))
  | connectD (host port timeout : Bytes) (idle : s.busy = false) (down : s.csD = .down) :
      Ran s (.connectD host port timeout)
        (conclude (connectDRun host port timeout (setBusy true s)).1 (connectDRun host port timeout (setBusy true s)).2)
  | pull (n : Nat) (chs : List Nat) (t : State) (accepted : pullAccept n chs s = .next t) : Ran s (.pull n chs) t
  | disconnectD (idle : s.busy = false) (held : s.csD ≠ .down) :
      Ran s .disconnectD
        (finish .none (setPh .idle (setSbValid false (setSb [] (setCsD .down (callDisconnect .binary (setBusy true s)))))))
  | acquirePull (n : Nat) (chs : List Nat) (t : State) (accepted : pullAccept n chs s = .next t) :
      Ran s (.acquire none n chs) t
  | acquireFails (cmd : Bytes) (n : Nat) (chs : List Nat) (t : State) (e : Err) (sent : Ran s (.send cmd) t)
      (result : (sendRun cmd (setBusy true s)).1 = .err e) : Ran s (.acquire (some cmd) n chs) t
  | acquireGoesOn (cmd : Bytes) (n : Nat) (chs : List Nat) (u t : State) (v : Value) (sent : Ran s (.send cmd) u)
      (result : (sendRun cmd (setBusy true s)).1 = .ok v) (accepted : pullAccept n chs u = .next t) :
      Ran s (.acquire (some cmd) n chs) t
  | cmdFrame (text : Bytes) : Ran s (.cmdFrame text) (textTake (frameCommand text) s)
  | respOk (sent payload trailer : Bytes) :
      Ran s (.respOk sent payload trailer) (textArrive (okReply sent payload trailer) s)
  | respUnknown (sent trailer : Bytes) :
      Ran s (.respUnknown sent trailer) (textArrive (unknownReply s.params.errLiteralWithSentinel sent trailer) s)
  | respWrong (sent trailer : Bytes) :
      Ran s (.respWrong sent trailer) (textArrive (wrongReply s.params.errLiteralWithSentinel sent trailer) s)
  | respMalformed (sent raw : Bytes) : Ran s (.respMalformed sent raw) (textArrive raw s)
  | pkt (r : RawHeader) (payload : Bytes) : Ran s (.pkt r payload) (binArrive (mkHeader r ++ payload) s)

/-- A request behind one guard: it is accepted, the guard holds, and its answer is the guarded one. -/
theorem accept_guard_next {s t : State} {c : State → Prop} [DecidablePred c] {k : State → State} {r : State → Refusal}
    (h : accept s (fun u => if c u then .next (k u) else .refused (r u)) = .next t) :
    s.busy = false ∧ c (setBusy true s) ∧ k (setBusy true s) = t := by
  obtain ⟨hb, h⟩ := accept_next h
  split at h
  · next hc => exact ⟨hb, hc, Host.Outcome.next.inj h⟩
  · cases h

/-- The guard of the requests that want a held handle: the other way round. -/
theorem accept_unless_next {s t : State} {c : State → Prop} [DecidablePred c] {k : State → State} {r : State → Refusal}
    (h : accept s (fun u => if c u then .refused (r u) else .next (k u)) = .next t) :
    s.busy = false ∧ ¬ c (setBusy true s) ∧ k (setBusy true s) = t := by
  obtain ⟨hb, h⟩ := accept_next h
  split at h
  · cases h
  · next hc => exact ⟨hb, hc, Host.Outcome.next.inj h⟩

theorem exec_next {i : Instr} {s t : State} (h : exec i s = .next t) : Ran s i t := by
  cases i with
  | enc name =>
    unfold exec execEnc at h
    obtain ⟨hb, ⟨⟩⟩ := accept_next h
    exact .enc name hb
  | decr raw sent =>
    unfold exec execDecr at h
    obtain ⟨hb, ⟨⟩⟩ := accept_next h
    exact .decr raw sent hb
  | dech bs =>
    unfold exec execDech at h
    obtain ⟨hb, h⟩ := accept_next h
    split at h <;> cases h
    · next hl => exact .dechShort bs hb hl
    · next hl => exact .dech bs hb (Nat.le_of_not_lt hl)
  | connectC host port timeout =>
    unfold exec execConnectC at h
    obtain ⟨hb, hc, rfl⟩ := accept_guard_next h
    exact .connectC host port timeout hb hc
  | send cmd =>
    unfold exec execSend at h
    obtain ⟨hb, hc, rfl⟩ := accept_guard_next h
    exact .send cmd hb hc
  | disconnectC =>
    unfold exec execDisconnectC at h
    obtain ⟨hb, hc, rfl⟩ := accept_unless_next h
    exact .disconnectC hb hc
  | connectD host port timeout =>
    unfold exec execConnectD at h
    obtain ⟨hb, hc, rfl⟩ := accept_guard_next h
    exact .connectD host port timeout hb hc
  | pull n chs => exact .pull n chs t h
  | disconnectD =>
    unfold exec execDisconnectD at h
    obtain ⟨hb, hc, rfl⟩ := accept_unless_next h
    exact .disconnectD hb hc
  | reservedOp op => cases h
  | acquire sampling n chs =>
    cases sampling with
    | none => exact .acquirePull n chs t h
    | some cmd =>
      unfold exec execAcquire at h
      obtain ⟨hb, h⟩ := accept_next h
      split at h
      · next hc =>
        have hsend := Ran.send cmd hb hc
        cases hr : (sendRun cmd (setBusy true s)).1 with
        | ok v => rw [hr] at h hsend; exact .acquireGoesOn cmd n chs _ t v hsend hr h
        | err e => rw [hr] at h hsend; cases h; exact .acquireFails cmd n chs _ e hsend hr
      · cases h
  | cmdFrame text => cases h; exact .cmdFrame text
  | respOk sent payload trailer => cases h; exact .respOk sent payload trailer
  | respUnknown sent trailer => cases h; exact .respUnknown sent trailer
  | respWrong sent trailer => cases h; exact .respWrong sent trailer
  | respMalformed sent raw => cases h; exact .respMalformed sent raw
  | pkt r payload => cases h; exact .pkt r payload

/-! ## The parameters (R9, R32) -/

@[simp] theorem callDisconnect_params (w : Channel) (s : State) : (callDisconnect w s).params = s.params := by
  obtain ⟨e, he, -⟩ := callDisconnect_state w s
  rw [he, setEnv_params]

@[simp] theorem textTake_params (bs : Bytes) (s : State) : (textTake bs s).params = s.params := by
  unfold textTake
  split <;> rfl

@[simp] theorem presentNext_params (s : State) : (presentNext s).params = s.params := by
  unfold presentNext
  split <;> rfl

theorem connectCRun_params {a b c : Bytes} {s : State} (h : s.csC = .down) :
    (connectCRun a b c s).2.params = s.params := by
  obtain ⟨e, l, he, -⟩ := connectCRun_state a b c s h
  rw [he, setCsC_params, setEnv_params]

theorem sendRun_params {cmd : Bytes} {s : State} (h : s.csC = .up) : (sendRun cmd s).2.params = s.params := by
  obtain ⟨e, l, he, -⟩ := sendRun_state cmd s h
  rw [he, setCsC_params, setEnv_params, setCmd_params]

theorem connectDRun_params (a b c : Bytes) (s : State) : (connectDRun a b c s).2.params = s.params := by
  obtain ⟨e, -, ⟨cause, he⟩ | he⟩ := connectDRun_state a b c s <;> rw [he] <;> rfl

theorem pullAccept_params {n : Nat} {chs : List Nat} {s t : State} (h : pullAccept n chs s = .next t) :
    t.params = s.params := by
  obtain ⟨-, -, -, -, -, rfl⟩ := pullAccept_next h
  rfl

theorem Ran.params {i : Instr} {s t : State} (h : Ran s i t) : t.params = s.params := by
  induction h with
  | enc | decr | dechShort | dech | disconnectC | disconnectD | cmdFrame | respOk | respUnknown | respWrong
  | respMalformed | pkt => simp
  | connectC _ _ _ _ down => simp [connectCRun_params (s := setBusy true s) down]
  | send _ _ up => simp [sendRun_params (s := setBusy true s) up]
  | connectD => simp [connectDRun_params]
  | pull _ _ _ accepted | acquirePull _ _ _ accepted => exact pullAccept_params accepted
  | acquireFails _ _ _ _ _ _ _ ih => exact ih
  | acquireGoesOn _ _ _ _ _ _ _ _ accepted ih => exact (pullAccept_params accepted).trans ih

theorem Micro.params {s t : State} (h : Micro s t) : t.params = s.params := by
  cases h <;> simp

theorem stepItem_params {bs : Bytes} {s t : State} (h : stepItem bs s = .next t) : t.params = s.params := by
  unfold stepItem at h
  split at h
  · simpa using (exec_next h).params
  · cases h

end Sys2Proof.Machine

open Sys2Proof.Machine

/-- Settles O49: an item keeps the parameters by `Ran`, a micro-step by `Micro`. -/
theorem parametersNeverChange : Obligations.ParametersNeverChange := by
  intro s t h
  unfold step at h
  split at h
  · exact stepItem_params h
  · split at h
    · exact (microStep_next h).params
    · cases h; exact presentNext_params s

end

section
/-! PROOFS. Inversion of a step; reset and the invariant: O50, O51, O52; SB changes only at its ends: O39. -/

namespace Sys2Proof.Machine

/-! ## What a step can do (R40, R27, R261) -/

/-- Everything a step does when it answers a next state: the item on the port, a micro-step, or the host's presentation. -/
theorem step_next {s t : State} (h : step s = .next t) :
    (∃ i, Ran (clearInput s) i t) ∨ (s.busy = true ∧ Micro s t) ∨ (s.busy = false ∧ t = presentNext s) := by
  unfold step at h
  split at h
  · unfold stepItem at h
    split at h
    · next i _ _ => exact .inl ⟨i, exec_next h⟩
    · cases h
  · split at h
    · next hb => exact .inr (.inl ⟨hb, microStep_next h⟩)
    · next hb => exact .inr (.inr ⟨by simpa using hb, (Host.Outcome.next.inj h).symm⟩)

theorem textTake_state (bs : Bytes) (s : State) : ∃ e, textTake bs s = setEnv e s ∧ Env.Frame s.env e := by
  unfold textTake
  split
  · exact ⟨_, rfl, rfl, rfl, rfl⟩
  · exact ⟨s.env, rfl, .refl _⟩

theorem presentNext_state (s : State) : ∃ e, presentNext s = setEnv e s ∧ e.results = s.env.results := by
  unfold presentNext
  split
  · exact ⟨s.env, rfl, rfl⟩
  · exact ⟨_, rfl, rfl⟩

/-! ## The elements the invariant speaks of -/

/-- Two states agree on every element the invariant reads but BUSY: they may differ in BUSY, CS_C, CMD, the ports and the
counter of the free values alone. -/
structure SameStream (s t : State) : Prop where
  sb : t.sb = s.sb
  sbValid : t.sbValid = s.sbValid
  csD : t.csD = s.csD
  req : t.req = s.req
  chsel : t.chsel = s.chsel
  emitted : t.emitted = s.emitted
  out : t.out = s.out
  flat : t.flat = s.flat
  ph : t.ph = s.ph
  hdr : t.hdr = s.hdr
  params : t.params = s.params

theorem SameStream.setEnv (e : Env) (s : State) : SameStream s (setEnv e s) := by
  constructor <;> rfl

/-- The end of an operation that was presented with PH = IDLE: an error leaves PH there. -/
theorem SameStream.conclude {s u : State} (h : SameStream s u) (idle : s.ph = .idle) (r : Result) :
    SameStream s (conclude r u) := by
  cases r with
  | ok v => exact { h with }
  | err e => exact { h with ph := idle.symm }

theorem Consistent.of_sameStream {s t : State} (hs : Consistent s) (h : SameStream s t) (busy : t.busy = s.busy) :
    Consistent t := by
  cases t
  obtain ⟨⟨⟩, ⟨⟩, ⟨⟩, ⟨⟩, ⟨⟩, ⟨⟩, ⟨⟩, ⟨⟩, ⟨⟩, ⟨⟩, ⟨⟩⟩ := h
  cases busy
  exact { hs with }

/-- Between operations the invariant asks only for the parameters, SB_CAP, and an empty SB without a connection. -/
theorem Consistent.of_idle {s : State} (busy : s.busy = false) (ph : s.ph = .idle) (params : s.params.wf)
    (cap : Memory.wf s.params.sbCap s.sb = true) (down : s.csD = .down → s.sb = [] ∧ s.sbValid = false) :
    Consistent s :=
  have running {p : Prop} : s.ph ≠ .idle → p := fun h => absurd ph h
  { params, cap, down
    phase := by simp [busy, ph]
    live := running
    latches := running
    count := running
    tuples := running
    wants := by rw [ph]; nofun
    header := by rw [ph]; nofun
    hdr := by rw [ph]; nofun
    whole := by rw [ph]; nofun }

theorem Consistent.ph_idle {s : State} (hs : Consistent s) (idle : s.busy = false) : s.ph = .idle := by
  by_contra h
  simpa [idle] using hs.phase.mpr h

/-! ## What an item does to those elements -/

theorem Ran.send_sameStream {cmd : Bytes} {s t : State} (h : Ran s (.send cmd) t)
    (hph : s.busy = false → s.ph = .idle) : SameStream s t ∧ t.busy = s.busy := by
  cases h with
  | send _ idle up =>
    obtain ⟨e, l, hrun, -⟩ := sendRun_state cmd (setBusy true s) up
    rw [hrun, conclude_busy, idle]
    exact ⟨.conclude (by constructor <;> rfl) (hph idle) _, rfl⟩

/-- What an item does to the elements of the invariant: it leaves them, it opens or closes the binary connection with an
empty SB, or its PULL is accepted. -/
inductive StreamChange (s : State) : State → Prop where
  | unchanged (t : State) (same : SameStream s t) (busy : t.busy = s.busy) : StreamChange s t
  | emptied (t : State) (idle : t.busy = false) (ph : t.ph = .idle) (params : t.params = s.params) (sb : t.sb = [])
      (valid : t.csD = .down → t.sbValid = false) (changed : s.csD = .down ∨ t.csD = .down) : StreamChange s t
  | accepted (u t : State) (n : Nat) (chs : List Nat) (same : SameStream s u) (busy : u.busy = s.busy)
      (accepted : pullAccept n chs u = .next t) : StreamChange s t

/-- A request that ends in its one step and leaves those elements. -/
theorem StreamChange.concluded {s u : State} (idle : s.busy = false) (ph : s.ph = .idle) (same : SameStream s u)
    (r : Result) : StreamChange s (conclude r u) :=
  .unchanged _ (same.conclude ph r) (by rw [conclude_busy, idle])

/-- A row of the wire formats, and the taking of an item: the ports alone. -/
theorem StreamChange.ports {s t : State} (h : ∃ e, t = setEnv e s) : StreamChange s t := by
  obtain ⟨e, rfl⟩ := h
  exact .unchanged _ (.setEnv e s) rfl

theorem Ran.streamChange {i : Instr} {s t : State} (h : Ran s i t) (hph : s.busy = false → s.ph = .idle) :
    StreamChange s t := by
  have taken : SameStream s (setBusy true s) := by constructor <;> rfl
  cases h with
  | enc _ idle | dech _ idle => exact .concluded idle (hph idle) taken (.ok _)
  | dechShort _ idle => exact .concluded idle (hph idle) taken (.err _)
  | decr _ _ idle => exact .concluded idle (hph idle) taken _
  | connectC host port timeout idle down =>
    obtain ⟨e, l, hrun, -⟩ := connectCRun_state host port timeout (setBusy true s) down
    rw [hrun]
    exact .concluded idle (hph idle) (by constructor <;> rfl) _
  | send cmd idle up =>
    obtain ⟨same, busy⟩ := (Ran.send cmd idle up).send_sameStream hph
    exact .unchanged _ same busy
  | disconnectC idle =>
    obtain ⟨e, hcall, -⟩ := callDisconnect_state .text (setBusy true s)
    rw [hcall]
    exact .concluded idle (hph idle) (by constructor <;> rfl) (.ok _)
  | connectD host port timeout idle down =>
    obtain ⟨e, -, ⟨cause, hrun⟩ | hrun⟩ := connectDRun_state host port timeout (setBusy true s) <;> rw [hrun]
    · exact .concluded idle (hph idle) (by constructor <;> rfl) _
    · exact .emptied _ rfl rfl rfl rfl nofun (.inl down)
  | disconnectD =>
    obtain ⟨e, hcall, -⟩ := callDisconnect_state .binary (setBusy true s)
    rw [hcall]
    exact .emptied _ rfl rfl rfl rfl (fun _ => rfl) (.inr rfl)
  | pull n chs _ accepted | acquirePull n chs _ accepted =>
    exact .accepted s t n chs (by constructor <;> rfl) rfl accepted
  | acquireFails _ _ _ _ _ sent =>
    obtain ⟨same, busy⟩ := sent.send_sameStream hph
    exact .unchanged t same busy
  | acquireGoesOn _ n chs u _ _ sent _ accepted =>
    obtain ⟨same, busy⟩ := sent.send_sameStream hph
    exact .accepted u t n chs same busy accepted
  | cmdFrame text =>
    obtain ⟨e, he, -⟩ := textTake_state (frameCommand text) s
    exact .ports ⟨e, he⟩
  | respOk | respUnknown | respWrong | respMalformed | pkt => exact .ports ⟨_, rfl⟩

theorem Consistent.pullAccept {n : Nat} {chs : List Nat} {s t : State} (hs : Consistent s)
    (h : pullAccept n chs s = .next t) : Consistent t := by
  obtain ⟨-, up, valid, ne, nodup, rfl⟩ := pullAccept_next h
  exact {
    params := hs.params
    cap := hs.cap
    phase := by simp
    down := fun down => hs.down down
    live := fun _ => ⟨up, valid⟩
    latches := fun _ => ⟨ne, nodup, rfl⟩
    count := fun _ => ⟨rfl, Nat.zero_le n⟩
    tuples := nofun
    wants := nofun
    header := nofun
    hdr := nofun
    whole := nofun }

/-- No item breaks the invariant. -/
theorem Consistent.ran {i : Instr} {s t : State} (hs : Consistent s) (h : Ran s i t) : Consistent t := by
  cases h.streamChange hs.ph_idle with
  | unchanged _ same busy => exact hs.of_sameStream same busy
  | emptied _ idle ph params sb valid =>
    exact .of_idle idle ph (params ▸ hs.params) (by rw [sb, Memory.wf_nil]) fun down => ⟨sb, valid down⟩
  | accepted u _ _ _ same busy accepted => exact (hs.of_sameStream same busy).pullAccept accepted

/-! ## A running PULL -/

/-- What the invariant asks of a running PULL whatever its phase. -/
structure Running (s : State) : Prop where
  params : s.params.wf
  cap : Memory.wf s.params.sbCap s.sb = true
  busy : s.busy = true
  live : s.csD = .up ∧ s.sbValid = true
  latches : s.chsel ≠ [] ∧ s.chsel.Nodup ∧ s.flat = flatOf s.chsel
  count : s.emitted = s.out.length ∧ s.emitted ≤ s.req
  tuples : ∀ t ∈ s.out, t.length = s.chsel.length ∧ ∀ x ∈ t, isInt32 x = true

theorem Consistent.running {s : State} (hs : Consistent s) (busy : s.busy = true) : Running s :=
  have ph := hs.phase.mp busy
  ⟨hs.params, hs.cap, busy, hs.live ph, hs.latches ph, hs.count ph, hs.tuples ph⟩

/-- The invariant is what it asks of every running PULL and what it asks of the phase. -/
theorem Running.consistent {s : State} (hr : Running s) (ph : s.ph ≠ .idle)
    (wants : s.ph.wants = true → s.emitted < s.req) (header : s.ph = .hdrCheck → 32 ≤ s.sb.length)
    (hdr : s.ph.hdrValid = true →
      32 ≤ s.sb.length ∧ s.hdr = decodeHeader (s.sb.take 32) ∧ HeaderFits s.params s.chsel s.hdr)
    (whole : s.ph.whole = true → packetLen s.hdr ≤ s.sb.length) : Consistent s where
  params := hr.params
  cap := hr.cap
  phase := iff_of_true hr.busy ph
  down down := by simp [hr.live.1] at down
  live _ := hr.live
  latches _ := hr.latches
  count _ := hr.count
  tuples _ := hr.tuples
  wants := wants
  header := header
  hdr := hdr
  whole := whole

/-- A PULL that ends with a connection, live or dead, and SB within SB_CAP ends in a consistent state. -/
theorem Running.ended {s t : State} (hr : Running s) (busy : t.busy = false) (ph : t.ph = .idle)
    (params : t.params = s.params) (cap : Memory.wf s.params.sbCap t.sb = true) (held : t.csD ≠ .down) :
    Consistent t :=
  .of_idle busy ph (params ▸ hr.params) (params ▸ cap) fun down => absurd down held

theorem Running.setPh {s : State} (hr : Running s) (p : Phase) : Running (setPh p s) := { hr with }
theorem Running.setHdr {s : State} (hr : Running s) (h : Header) : Running (setHdr h s) := { hr with }
theorem Running.forgetHdr {s : State} (hr : Running s) : Running (forgetHdr s) := { hr with }
theorem Running.setEnv {s : State} (hr : Running s) (e : Env) : Running (setEnv e s) := { hr with }
theorem Running.setSb {s : State} (hr : Running s) {m : Memory} (cap : Memory.wf s.params.sbCap m = true) :
    Running (setSb m s) := { hr with cap := cap }

theorem Running.emit {s : State} (hr : Running s) {ts : List (List Int)} (le : s.emitted + ts.length ≤ s.req)
    (tuples : ∀ t ∈ ts, t.length = s.chsel.length ∧ ∀ x ∈ t, isInt32 x = true) : Running (emit ts s) :=
  { hr with
    count := ⟨by simp [hr.count.1], le⟩
    tuples := fun t ht => (List.mem_append.mp ht).elim (hr.tuples t) (tuples t) }

/-! ## Projection (R185, R29) -/

@[simp] theorem projectFrames_length (sb : Bytes) (stride : Nat) (chs : List Nat) (n : Nat) :
    (projectFrames sb stride chs n).length = n := by
  simp [projectFrames]

/-- A projected tuple has one int32 per requested channel. -/
theorem tuple_of_mem_projectFrames {sb : Bytes} {stride : Nat} {chs : List Nat} {n : Nat} {t : List Int}
    (h : t ∈ projectFrames sb stride chs n) : t.length = chs.length ∧ ∀ x ∈ t, isInt32 x = true := by
  obtain ⟨k, -, rfl⟩ := List.mem_map.mp h
  refine ⟨List.length_map _, fun x hx => ?_⟩
  obtain ⟨c, -, rfl⟩ := List.mem_map.mp hx
  exact le32s_isInt32 _ _

theorem emitted_add_emitCount_le {s : State} (h : s.emitted ≤ s.req) : s.emitted + emitCount s ≤ s.req := by
  unfold emitCount
  omega

/-! ## Micro-steps -/

theorem headerFits_of_checks {p : Params} {chs : List Nat} {h : Header} (pairs : pairsRefused p h = false)
    (channels : maxChannel chs < h.channelCount) (size : frameSizeWrong h = false) : HeaderFits p chs h where
  pairs := by simpa [pairsRefused] using pairs
  channels := channels
  frames pos := by
    by_contra ne
    simp [frameSizeWrong, Config.sampleBytes, pos, ne] at size

/-- HDR stays the decoded header at the front of SB when bytes are appended behind it. -/
theorem decodeHeader_take_append {sb : Bytes} (bs : Bytes) (len : 32 ≤ sb.length) :
    decodeHeader ((sb ++ bs).take 32) = decodeHeader (sb.take 32) := by
  rw [List.take_append_of_le_length len]

/-- No micro-step of a running PULL breaks the invariant. -/
theorem Consistent.micro {s t : State} (hs : Consistent s) (busy : s.busy = true) (h : Micro s t) : Consistent t := by
  have hr := hs.running busy
  have up : s.csD ≠ .down := by simp [hr.live.1]
  cases h with
  | loopEnds | shortReturn | outOfRange => exact hr.ended rfl rfl rfl hr.cap up
  | incomplete => exact hr.ended rfl rfl rfl (clip_wf _ _) up
  | fails => exact hr.ended rfl rfl rfl hr.cap nofun
  | loopGoesOn _ lt => exact (hr.setPh .hdrWait).consistent nofun (fun _ => lt) nofun nofun nofun
  | headerBuffered ph len =>
    have wants : s.emitted < s.req := hs.wants (by rw [ph]; rfl)
    exact (hr.setPh .hdrCheck).consistent nofun (fun _ => wants) (fun _ => len) nofun nofun
  | wholeBuffered ph whole =>
    have wants : s.emitted < s.req := hs.wants (by rw [ph]; rfl)
    have hdr := hs.hdr (by rw [ph]; rfl)
    exact (hr.setPh .extract).consistent nofun (fun _ => wants) nofun (fun _ => hdr) fun _ => whole
  | headerFits h ph len hdr pairs lt size =>
    have wants : s.emitted < s.req := hs.wants (by rw [ph]; rfl)
    exact ((hr.setHdr h).setPh .payWait).consistent nofun (fun _ => wants) nofun
      (fun _ => ⟨len, hdr, headerFits_of_checks pairs lt size⟩) nofun
  | extracts ph =>
    have hdr := hs.hdr (by rw [ph]; rfl)
    have whole := hs.whole (by rw [ph]; rfl)
    have emitted := hr.emit (ts := projectFrames s.sb s.hdr.bytesPerFrame s.chsel (emitCount s))
      (by simpa using emitted_add_emitCount_le hr.count.2) fun _ => tuple_of_mem_projectFrames
    exact (emitted.setPh .drop).consistent nofun nofun nofun (fun _ => hdr) fun _ => whole
  | drops =>
    have cap : Memory.wf s.params.sbCap (s.sb.drop (packetLen s.hdr)) = true :=
      Memory.wf_of_length_le hr.cap (by simp)
    exact ((hr.setSb cap).forgetHdr.setPh .loop).consistent nofun nofun nofun nofun nofun
  | reads e bs _ _ ph _ _ fits =>
    have running := (hr.setEnv e).setSb fits
    have le : s.sb.length ≤ (s.sb ++ bs).length := by simp
    refine running.consistent (hs.phase.mp busy) hs.wants (fun ph => (hs.header ph).trans le) (fun valid => ?_)
      (fun whole => (hs.whole whole).trans le)
    obtain ⟨len, hdr, fits⟩ := hs.hdr valid
    exact ⟨len.trans le, hdr.trans (decodeHeader_take_append bs len).symm, fits⟩

/-! ## The StreamBuffer (R21, R24) -/

/-- An item leaves SB, or creates or discards it with the connection. -/
theorem StreamChange.sb {s t : State} (h : StreamChange s t) :
    t.sb = s.sb ∨ (t.sb = [] ∧ (s.csD = .down ∨ t.csD = .down)) := by
  cases h with
  | unchanged _ same => exact .inl same.sb
  | emptied _ _ _ _ sb _ changed => exact .inr ⟨sb, changed⟩
  | accepted u _ _ _ same _ accepted =>
    obtain ⟨-, -, -, -, -, rfl⟩ := pullAccept_next accepted
    exact .inl same.sb

/-- A micro-step leaves SB, appends to it, drops the packet at its front, or ends in IncompletePacket. -/
theorem Micro.sb {s t : State} (h : Micro s t) :
    t.sb = s.sb ∨ (∃ bs, bs ≠ [] ∧ t.sb = s.sb ++ bs) ∨ (s.ph = .drop ∧ t.sb = s.sb.drop (packetLen s.hdr))
      ∨ (s.ph = .payWait ∧ t.sbValid = false) := by
  cases h with
  | loopEnds | loopGoesOn | headerBuffered | wholeBuffered | shortReturn | fails | outOfRange | headerFits | extracts =>
    exact .inl rfl
  | reads _ bs _ _ _ ne => exact .inr (.inl ⟨bs, ne, rfl⟩)
  | drops ph => exact .inr (.inr (.inl ⟨ph, rfl⟩))
  | incomplete _ _ _ ph => exact .inr (.inr (.inr ⟨ph, rfl⟩))

end Sys2Proof.Machine

open Sys2Proof.Machine

/-- Settles O52: an item keeps the invariant by `StreamChange`, a micro-step by `Running` and its phase. -/
theorem stepKeepsConsistent : Obligations.StepKeepsConsistent := by
  intro s t hs h
  obtain ⟨i, hi⟩ | ⟨busy, hm⟩ | ⟨-, rfl⟩ := step_next h
  · have cleared : Consistent (clearInput s) := hs.of_sameStream (.setEnv _ s) rfl
    exact cleared.ran hi
  · exact hs.micro busy hm
  · obtain ⟨e, he, -⟩ := presentNext_state s
    rw [he]
    exact hs.of_sameStream (.setEnv e s) rfl

/-- Settles O39: an item changes SB only with the connection, by `StreamChange`; the other ways are micro-steps. -/
theorem bufferChangesOnlyAtItsEnds : Obligations.BufferChangesOnlyAtItsEnds := by
  intro s t hs h
  obtain ⟨i, hi⟩ | ⟨busy, hm⟩ | ⟨-, rfl⟩ := step_next h
  · obtain same | emptied := (hi.streamChange hs.ph_idle).sb
    · exact .inl same
    · exact .inr (.inr (.inr (.inl emptied)))
  · obtain same | ⟨bs, ne, appended⟩ | dropped | incomplete := hm.sb
    · exact .inl same
    · exact .inr (.inl ⟨bs, ne, appended, busy⟩)
    · exact .inr (.inr (.inl dropped))
    · exact .inr (.inr (.inr (.inr incomplete)))
  · obtain ⟨e, he, -⟩ := presentNext_state s
    exact .inl (by rw [he, setEnv_sb])

/-- Settles O50. -/
theorem resetValues : Obligations.ResetValues := by
  unfold Obligations.ResetValues
  decide

/-- Settles O51: the reset state is one between operations. -/
theorem resetIsConsistent : Obligations.ResetIsConsistent :=
  .of_idle rfl rfl (by decide) rfl fun _ => ⟨rfl, rfl⟩

end

section
/-! PROOFS. One result for each operation: O46; the step and its refusals: O3, O4 and O26. -/

namespace Sys2Proof.Machine

/-! ## Results (R41) -/

theorem connectCRun_results {a b c : Bytes} {s : State} (h : s.csC = .down) :
    (connectCRun a b c s).2.env.results = s.env.results := by
  obtain ⟨e, l, he, frame⟩ := connectCRun_state a b c s h
  rw [he]
  exact frame.results

theorem sendRun_results {cmd : Bytes} {s : State} (h : s.csC = .up) :
    (sendRun cmd s).2.env.results = s.env.results := by
  obtain ⟨e, l, he, frame, -⟩ := sendRun_state cmd s h
  rw [he]
  exact frame.results

theorem connectDRun_results (a b c : Bytes) (s : State) : (connectDRun a b c s).2.env.results = s.env.results := by
  obtain ⟨e, frame, ⟨cause, he⟩ | he⟩ := connectDRun_state a b c s <;> rw [he] <;> exact frame.results

theorem callDisconnect_results (w : Channel) (s : State) : (callDisconnect w s).env.results = s.env.results := by
  obtain ⟨e, he, frame, -⟩ := callDisconnect_state w s
  rw [he]
  exact frame.results

/-- The end of an operation that has presented nothing so far: BUSY = 0 and one result more. -/
theorem conclude_presents_one (r : Result) {s u : State} (h : u.env.results = s.env.results) :
    (conclude r u).busy = false ∧ ∃ r', (conclude r u).env.results = s.env.results ++ [r'] :=
  ⟨conclude_busy r u, r, by rw [conclude_results, h]⟩

theorem Ran.send_presents_one {cmd : Bytes} {s t : State} (h : Ran s (.send cmd) t) :
    t.busy = false ∧ ∃ r, t.env.results = s.env.results ++ [r] := by
  cases h with
  | send _ _ up => exact conclude_presents_one _ (sendRun_results (s := setBusy true s) up)

theorem pullAccept_presents_none {n : Nat} {chs : List Nat} {s t : State} (h : pullAccept n chs s = .next t) :
    t.busy = true ∧ t.env.results = s.env.results := by
  obtain ⟨-, -, -, -, -, rfl⟩ := pullAccept_next h
  exact ⟨rfl, rfl⟩

/-- A micro-step presents a result exactly when it ends the PULL. -/
theorem Micro.presents {s t : State} (h : Micro s t) (busy : s.busy = true) :
    (t.busy = true ∧ t.env.results = s.env.results) ∨ (t.busy = false ∧ ∃ r, t.env.results = s.env.results ++ [r]) := by
  cases h with
  | loopGoesOn | headerBuffered | wholeBuffered | headerFits | extracts | drops => exact .inl ⟨busy, rfl⟩
  | reads e bs frame => exact .inl ⟨busy, frame.results⟩
  | loopEnds | outOfRange => exact .inr ⟨rfl, _, rfl⟩
  | shortReturn e frame | incomplete e frame | fails e _ frame =>
    exact .inr ⟨rfl, _, congrArg (· ++ _) frame.results⟩

/-! ## Acceptance (R40) -/

/-- Every request stands behind `accept`. -/
theorem exec_of_busy {i : Instr} {s : State} (request : isRequest i = true) (busy : s.busy = true) :
    exec i s = .refused .busy := by
  cases i with
  | enc | decr | dech | connectC | send | disconnectC | connectD | pull | disconnectD =>
    simp only [exec, execEnc, execDecr, execDech, execConnectC, execSend, execDisconnectC, execConnectD, execPull,
      pullAccept, execDisconnectD, accept_busy busy]
  | acquire sampling => cases sampling <;> simp only [exec, execAcquire, pullAccept, accept_busy busy]
  | reservedOp | cmdFrame | respOk | respUnknown | respWrong | respMalformed | pkt => cases request

end Sys2Proof.Machine

open Sys2Proof.Machine

/-- Settles O46: an item by `Ran`, a micro-step by `Micro`. -/
theorem oneResultPerOperation : Obligations.OneResultPerOperation := by
  refine ⟨fun s t i h => ?_, fun s t busy h => (microStep_next h).presents busy⟩
  cases exec_next h with
  | enc | dech => exact conclude_presents_one (.ok _) rfl
  | dechShort => exact conclude_presents_one (.err _) rfl
  | decr => exact conclude_presents_one _ rfl
  | connectC _ _ _ _ down => exact conclude_presents_one _ (connectCRun_results (s := setBusy true s) down)
  | connectD => exact conclude_presents_one _ (connectDRun_results _ _ _ (setBusy true s))
  | send _ idle up => exact (Ran.send _ idle up).send_presents_one
  | disconnectC => exact conclude_presents_one (.ok _) (callDisconnect_results .text (setBusy true s))
  | disconnectD => exact conclude_presents_one (.ok _) (callDisconnect_results .binary (setBusy true s))
  | pull _ _ _ accepted => exact pullAccept_presents_none accepted
  | acquirePull _ _ _ accepted => exact .inl (pullAccept_presents_none accepted).1
  | acquireFails _ _ _ _ _ sent => exact .inr sent.send_presents_one.2
  | acquireGoesOn _ _ _ _ _ _ _ _ accepted => exact .inl (pullAccept_presents_none accepted).1
  | cmdFrame text =>
    obtain ⟨e, he, frame⟩ := textTake_state (frameCommand text) s
    rw [he]
    exact ⟨rfl, frame.results⟩
  | respOk | respUnknown | respWrong | respMalformed | pkt => exact ⟨rfl, rfl⟩

/-- Settles O3. -/
theorem stepRunsTheDecodedItem : Obligations.StepRunsTheDecodedItem := by
  intro s bs input
  have taken : step s = stepItem bs s := by rw [step, input]
  refine ⟨fun i rest hd => ?_, fun e hd => ?_⟩
  · rw [taken, stepItem, hd]
    rfl
  · rw [taken, stepItem, hd]

/-- Settles O4. -/
theorem stepWithoutItem : Obligations.StepWithoutItem := by
  intro s input
  have free : step s = if s.busy then microStep s else .next (presentNext s) := by rw [step, input]
  refine ⟨fun busy => ?_, fun a rest idle agenda => ?_, fun idle agenda => ?_⟩
  · rw [free, if_pos busy]
  · rw [free, if_neg (by simp [idle]), presentNext, agenda]
    rfl
  · rw [free, if_neg (by simp [idle]), presentNext, agenda]

/-- Settles O26. -/
theorem busyRefusesEveryRequest : Obligations.BusyRefusesEveryRequest :=
  fun _ _ busy request => exec_of_busy request busy

end

section
/-! PROOFS. The fields of a decoded header: O15. -/

namespace Sys2Proof.Machine

theorem le64u_lt (s : Bytes) (o : Nat) : le64u s o < 2 ^ 64 := by
  have low := le32u_lt s o
  have high := le32u_lt s (o + 4)
  rw [le64u_eq_le32u]
  omega

theorem slice_length {s : Bytes} {a b : Nat} (h : b ≤ s.length) : (slice s a b).length = b - a := by
  rw [slice, List.length_take, List.length_drop]
  omega

/-- The fields of a header of at least 32 bytes are in the ranges of their types (R28, R86). -/
theorem decodeRaw_wf {h : Bytes} (len : 32 ≤ h.length) : (decodeRaw h).wf = true := by
  have preamble : (slice h 0 4).length = 4 := slice_length (by omega)
  have reserved : (slice h 20 24).length = 4 := slice_length (by omega)
  simp only [RawHeader.wf, Bool.and_eq_true, beq_iff_eq, decide_eq_true_eq]
  exact ⟨⟨⟨⟨⟨⟨⟨preamble, le32s_isInt32 h 4⟩, le32s_isInt32 h 8⟩, le64u_lt h 12⟩, reserved⟩, le16u_lt h 24⟩,
    le16u_lt h 26⟩, le32s_isInt32 h 28⟩

theorem channelCountOf_le (presence : Nat) : channelCountOf presence ≤ 32 :=
  List.countP_le_length.trans (List.length_range).le

/-- The product of two uint16 does not pass 65535² (R90). -/
theorem decodeHeader_payloadSize_le (h : Bytes) : (decodeHeader h).payloadSize ≤ 4294836225 :=
  Nat.mul_le_mul (Nat.le_of_lt_succ (le16u_lt h 24)) (Nat.le_of_lt_succ (le16u_lt h 26))

end Sys2Proof.Machine

open Sys2Proof.Machine

/-- Settles O15. -/
theorem decodedFieldsInRange : Obligations.DecodedFieldsInRange := fun h len =>
  ⟨decodeRaw_wf len, channelCountOf_le _, rfl, decodeHeader_payloadSize_le h⟩

end

section
/-! PROOFS. The bits of a little-endian read: O17. -/

namespace Sys2Proof.Machine

/-- `v` holds bit `b` of the `k` bytes from `o` on as its bit `b` (R51). -/
def HoldsBits (s : Bytes) (o k v : Nat) : Prop :=
  ∀ b, b < 8 * k → v.testBit b = (byteAt s (o + b / 8)).testBit (b % 8)

theorem byteAt_holdsBits (s : Bytes) (o : Nat) : HoldsBits s o 1 (byteAt s o) := by
  intro b lt
  rw [Nat.div_eq_of_lt lt, Nat.mod_eq_of_lt lt, Nat.add_zero]

/-- Two adjacent reads of `k` bytes, joined with the first one low, are one read of `2 * k` bytes. -/
theorem HoldsBits.join {s : Bytes} {o k low high : Nat} (lt : low < 2 ^ (8 * k)) (hlow : HoldsBits s o k low)
    (hhigh : HoldsBits s (o + k) k high) : HoldsBits s o (2 * k) (low + 2 ^ (8 * k) * high) := by
  intro b hb
  rw [Nat.add_comm low, Nat.testBit_two_pow_mul_add _ lt]
  split
  · next h => exact hlow b h
  · next h =>
    have byte : o + k + (b - 8 * k) / 8 = o + b / 8 := by omega
    have bit : (b - 8 * k) % 8 = b % 8 := by omega
    rw [hhigh _ (by omega), byte, bit]

theorem le16u_holdsBits (s : Bytes) (o : Nat) : HoldsBits s o 2 (le16u s o) :=
  (byteAt_holdsBits s o).join (byteAt_lt s o) (byteAt_holdsBits s (o + 1))

theorem le32u_holdsBits (s : Bytes) (o : Nat) : HoldsBits s o 4 (le32u s o) := by
  rw [le32u_eq_le16u]
  exact (le16u_holdsBits s o).join (le16u_lt s o) (le16u_holdsBits s (o + 2))

theorem le64u_holdsBits (s : Bytes) (o : Nat) : HoldsBits s o 8 (le64u s o) := by
  rw [le64u_eq_le32u]
  exact (le32u_holdsBits s o).join (le32u_lt s o) (le32u_holdsBits s (o + 4))

end Sys2Proof.Machine

open Sys2Proof.Machine

/-- Settles O17: the eight bytes are joined in pairs, each byte holding its own bits. -/
theorem presenceBitsStandInTheirBytes : Obligations.PresenceBitsStandInTheirBytes := by
  intro h b lt
  have held : (le64u h 12).testBit b = (byteAt h (12 + b / 8)).testBit (b % 8) := le64u_holdsBits h 12 b lt
  exact held.trans (BitVec.testBit_toNat _)

end

section
/-! PROOFS. The classes of a reply: O8 and O9; a reply that has arrived is classified by the next SEND: O23. -/

namespace Sys2Proof

/-- What stands between the echo and the run of CR and LF in a reply of each class (R83, R84). -/
def Reply.body (lit : Bool) : Reply → Option Bytes
  | .ok payload => some (payload ++ Machine.litOk)
  | .unknown => some (Machine.litUnknown lit)
  | .wrong => some (Machine.litWrong lit)
  | .malformed => none

namespace Machine

/-! ## The class of a reply (R125 to R130) -/

/-- No body ends in CR or LF, so the strip of R126 leaves it whole. -/
theorem body_getLast? {lit : Bool} {c : Reply} {body : Bytes} (h : c.body lit = some body) :
    ∃ b, body.getLast? = some b ∧ isCrlf b = false := by
  cases c with
  | ok payload => cases h; exact ⟨0x4B, List.getLast?_append, rfl⟩
  | unknown => cases h; exact ⟨0x44, List.getLast?_append, rfl⟩
  | wrong => cases h; exact ⟨0x52, List.getLast?_append, rfl⟩
  | malformed => cases h

/-- The tests behind the echo tell the bodies apart: no failure literal ends in `OK` (R128, R129). -/
theorem classifyStripped_echo {lit : Bool} {c : Reply} {body : Bytes} (h : c.body lit = some body) (sent : Bytes) :
    classifyStripped lit (sentinel :: sent ++ body) sent = c := by
  have echo : startsWith (sentinel :: sent ++ body) (sentinel :: sent) = true := (startsWith_iff _ _).mpr ⟨body, rfl⟩
  have rest : (sentinel :: sent ++ body).drop (sent.length + 1) = body := List.drop_left
  rw [classifyStripped, if_pos echo, rest]
  cases c with
  | ok payload =>
    cases h
    have marked : endsWith (payload ++ litOk) litOk = true := (endsWith_iff _ _).mpr ⟨payload, rfl⟩
    have length : (payload ++ litOk).length - 2 = payload.length := by simp [litOk]
    simp only [if_pos marked, length, List.take_left]
  | unknown => cases h; cases lit <;> decide
  | wrong => cases h; cases lit <;> decide
  | malformed => cases h

theorem classifyStripped_iff {lit : Bool} {r sent body : Bytes} {c : Reply} (h : c.body lit = some body) :
    classifyStripped lit r sent = c ↔ r = sentinel :: sent ++ body := by
  refine ⟨fun hc => ?_, fun hr => hr ▸ classifyStripped_echo h sent⟩
  unfold classifyStripped at hc
  split at hc
  · next echo =>
    obtain ⟨rem, rfl⟩ := (startsWith_iff _ _).mp echo
    rw [show (sentinel :: sent ++ rem).drop (sent.length + 1) = rem from List.drop_left] at hc
    simp only at hc
    congr 1
    split at hc
    · next marked =>
      obtain ⟨payload, rfl⟩ := (endsWith_iff _ _).mp marked
      subst hc
      simpa [Reply.body, litOk] using h
    split at hc
    · next isUnknown =>
      subst hc
      exact (beq_iff_eq.mp isUnknown).trans (Option.some.inj h)
    split at hc
    · next isWrong =>
      subst hc
      exact (beq_iff_eq.mp isWrong).trans (Option.some.inj h)
    · subst hc
      cases h
  · subst hc
    cases h

/-- A sequence that does not end in CR or LF is what the strip leaves exactly of itself and a run of them. -/
theorem rstripCrlf_eq_iff {raw r : Bytes} {b : Byte} (last : r.getLast? = some b) (hb : isCrlf b = false) :
    rstripCrlf raw = r ↔ ∃ run, (∀ c ∈ run, isCrlf c = true) ∧ raw = r ++ run := by
  constructor
  · rintro rfl
    exact ⟨trailerOf raw, fun c => isCrlf_of_mem_trailerOf, (rstripCrlf_append_trailerOf raw).symm⟩
  · rintro ⟨run, hrun, rfl⟩
    obtain ⟨s, rfl⟩ := List.getLast?_eq_some_iff.mp last
    rw [List.append_assoc]
    exact rstripCrlf_append s run b hb hrun

/-- A reply is of a class other than MalformedResponse exactly when it is sentinel, echo, the body of that class, and a run
of CR and LF. -/
theorem classify_iff {lit : Bool} {raw sent body : Bytes} {c : Reply} (h : c.body lit = some body) :
    classify lit raw sent = c ↔ ∃ run, (∀ b ∈ run, isCrlf b = true) ∧ raw = sentinel :: sent ++ body ++ run := by
  obtain ⟨b, last, hb⟩ := body_getLast? h
  have lastOfReply : (sentinel :: sent ++ body).getLast? = some b := by rw [List.getLast?_append, last]; rfl
  rw [classify, classifyStripped_iff h, rstripCrlf_eq_iff lastOfReply hb]

theorem classify_reply {lit : Bool} {body : Bytes} {c : Reply} (h : c.body lit = some body) (sent : Bytes) {run : Bytes}
    (hrun : ∀ b ∈ run, isCrlf b = true) : classify lit (sentinel :: sent ++ body ++ run) sent = c :=
  (classify_iff h).mpr ⟨run, hrun, rfl⟩

/-- A success reply as sentinel, echo, body and run (R83). -/
theorem okReply_eq (sent payload run : Bytes) :
    okReply sent payload run = sentinel :: sent ++ (payload ++ litOk) ++ run := by
  simp [okReply]

/-! ## One exchange (R154, R156, R249) -/

/-- An exchange whose write and read are laid down decodes the bytes in the transport, followed by the fresh ones. -/
theorem sendRun_result {s : State} (cmd : Bytes) {fresh : Bytes} {ds : List DoneAnswer} {ts : List TextAnswer}
    (written : s.env.txAns = .done :: ds) (read : s.env.textAns = .bytes fresh :: ts) :
    (sendRun cmd s).1 = replyResult
      (classify s.params.errLiteralWithSentinel (takeMax s.params.cmdReadMax (s.env.textRx ++ fresh)) cmd) cmd
      (takeMax s.params.cmdReadMax (s.env.textRx ++ fresh)) := by
  simp [sendRun, txC, nextTx, rxAvailC, nextText, settle, written, read]

/-- A SEND from UP presents the result of its exchange. -/
theorem exec_send_presents {s : State} (cmd : Bytes) (idle : s.busy = false) (up : s.csC = .up) :
    ∃ t, exec (.send cmd) s = .next t ∧ t.env.results = s.env.results ++ [(sendRun cmd (setBusy true s)).1] := by
  have accepted : exec (.send cmd) s = .next (conclude (sendRun cmd (setBusy true s)).1
      (forgetCmd (sendRun cmd (setBusy true s)).2)) := by
    rw [exec, execSend, accept_eq idle, if_pos (by exact up)]
  refine ⟨_, accepted, ?_⟩
  rw [conclude_results, forgetCmd_env, sendRun_results (by exact up), setBusy_env]

/-- A reply that arrives in the empty transport is what the next SEND of the text it answers decodes. -/
theorem exec_send_after_arrival {s : State} (sent raw : Bytes) {ds : List DoneAnswer} {ts : List TextAnswer}
    (idle : s.busy = false) (up : s.csC = .up) (unlimited : s.params.cmdReadMax = none) (empty : s.env.textRx = [])
    (written : s.env.txAns = .done :: ds) (read : s.env.textAns = .bytes [] :: ts) :
    ∃ t, exec (.send sent) (textArrive raw s) = .next t ∧ t.env.results = s.env.results ++
      [replyResult (classify s.params.errLiteralWithSentinel raw sent) sent raw] := by
  obtain ⟨t, ht, presented⟩ := exec_send_presents (s := textArrive raw s) sent idle up
  refine ⟨t, ht, ?_⟩
  rw [presented, sendRun_result (s := setBusy true (textArrive raw s)) sent written read]
  simp [takeMax, unlimited, empty]

end Machine

end Sys2Proof

open Sys2Proof Sys2Proof.Machine

/-- Settles O8: the body of a success is the payload and `OK`. -/
theorem decrSucceedsExactly : Obligations.DecrSucceedsExactly := by
  intro lit raw sent p
  simpa [isCrlf_iff, sentinel, litOk] using classify_iff (lit := lit) (raw := raw) (sent := sent) (c := .ok p) rfl

/-- Settles O9: the body of a failure is its literal. -/
theorem decrClassifiesFailuresExactly : Obligations.DecrClassifiesFailuresExactly := by
  intro lit raw sent
  constructor
  · simpa [isCrlf_iff, sentinel, litUnknown, litLead, textUnknown] using
      classify_iff (lit := lit) (raw := raw) (sent := sent) (c := .unknown) rfl
  · simpa [isCrlf_iff, sentinel, litWrong, litLead, textWrong] using
      classify_iff (lit := lit) (raw := raw) (sent := sent) (c := .wrong) rfl

/-- Settles O23: each row brings the bytes of its class, and the exchange decodes what has arrived. -/
theorem arrivedRepliesDecode : Obligations.ArrivedRepliesDecode := by
  intro s sent payload run raw ds ts idle up unlimited empty written read hrun
  have arrived := fun raw => exec_send_after_arrival sent raw idle up unlimited empty written read
  refine ⟨?_, ?_, ?_, fun malformed => ?_⟩
  · obtain ⟨t, ht, results⟩ := arrived (okReply sent payload run)
    rw [okReply_eq, classify_reply (c := .ok payload) rfl sent hrun] at results
    exact ⟨_, t, rfl, ht, results⟩
  · obtain ⟨t, ht, results⟩ := arrived (unknownReply s.params.errLiteralWithSentinel sent run)
    rw [unknownReply, classify_reply (c := .unknown) rfl sent hrun] at results
    exact ⟨_, t, _, rfl, ht, results⟩
  · obtain ⟨t, ht, results⟩ := arrived (wrongReply s.params.errLiteralWithSentinel sent run)
    rw [wrongReply, classify_reply (c := .wrong) rfl sent hrun] at results
    exact ⟨_, t, _, rfl, ht, results⟩
  · obtain ⟨t, ht, results⟩ := arrived raw
    rw [malformed] at results
    exact ⟨_, t, rfl, ht, results⟩

end

section
/-! PROOFS. Decode and encode agree: O1; bytes written out: O2. -/

namespace Sys2Proof

namespace Machine

/-! ## Headers (R86, R138) -/

theorem byteAt_drop (s : Bytes) (o i : Nat) : byteAt (s.drop o) i = byteAt s (o + i) := by
  simp [byteAt, List.getD_eq_getElem?_getD]

theorem byteAt_cons_zero (b : Byte) (s : Bytes) : byteAt (b :: s) 0 = b.toNat := rfl

theorem byteAt_cons_succ (b : Byte) (s : Bytes) (i : Nat) : byteAt (b :: s) (i + 1) = byteAt s i := rfl

/-- A read finds the natural whose little-endian bytes stand at its offset (R50). -/
theorem le16u_of_drop {s t : Bytes} {o v : Nat} (lt : v < 2 ^ 16) (h : s.drop o = leBytes 2 v ++ t) : le16u s o = v := by
  have shifted : le16u s o = le16u (s.drop o) 0 := by simp [le16u, byteAt_drop]
  rw [shifted, h]
  simp only [le16u, leBytes, List.cons_append, byteAt_cons_zero, byteAt_cons_succ, BitVec.toNat_ofNat]
  omega

theorem le32u_of_drop {s t : Bytes} {o v : Nat} (lt : v < 2 ^ 32) (h : s.drop o = leBytes 4 v ++ t) : le32u s o = v := by
  have shifted : le32u s o = le32u (s.drop o) 0 := by simp [le32u, byteAt_drop]
  rw [shifted, h]
  simp only [le32u, leBytes, List.cons_append, byteAt_cons_zero, byteAt_cons_succ, BitVec.toNat_ofNat]
  omega

theorem le64u_of_drop {s t : Bytes} {o v : Nat} (lt : v < 2 ^ 64) (h : s.drop o = leBytes 8 v ++ t) : le64u s o = v := by
  have shifted : le64u s o = le64u (s.drop o) 0 := by simp [le64u, byteAt_drop]
  rw [shifted, h]
  simp only [le64u, leBytes, List.cons_append, byteAt_cons_zero, byteAt_cons_succ, BitVec.toNat_ofNat]
  omega

theorem le32s_of_drop {s t : Bytes} {o : Nat} {v : Int} (int32 : isInt32 v = true) (h : s.drop o = le32Bytes v ++ t) :
    le32s s o = v := by
  obtain ⟨low, high⟩ := (isInt32_iff v).mp int32
  rw [le32s, le32u_of_drop (by omega) h, sext32]
  split <;> omega

theorem mkHeader_length {r : RawHeader} (h : r.wf = true) : (mkHeader r).length = 32 := by
  simp only [RawHeader.wf, Bool.and_eq_true, beq_iff_eq] at h
  obtain ⟨⟨⟨⟨⟨⟨⟨preamble, -⟩, -⟩, -⟩, reserved⟩, -⟩, -⟩, -⟩ := h
  simp [mkHeader, le32Bytes, leBytes_length, preamble, reserved]

/-- The eight fields are read back at their offsets, whatever follows the header (R135, R138). -/
theorem decodeRaw_mkHeader {r : RawHeader} (h : r.wf = true) (more : Bytes) : decodeRaw (mkHeader r ++ more) = r := by
  obtain ⟨preamble, item, serial, presence, reserved, frames, stride, counter⟩ := r
  simp only [RawHeader.wf, Bool.and_eq_true, beq_iff_eq, decide_eq_true_eq] at h
  obtain ⟨⟨⟨⟨⟨⟨⟨hpreamble, hitem⟩, hserial⟩, hpresence⟩, hreserved⟩, hframes⟩, hstride⟩, hcounter⟩ := h
  obtain ⟨p0, p1, p2, p3, rfl⟩ := List.length_eq_four.mp hpreamble
  obtain ⟨r0, r1, r2, r3, rfl⟩ := List.length_eq_four.mp hreserved
  simp only [decodeRaw, mkHeader, List.append_assoc, RawHeader.mk.injEq]
  exact ⟨rfl, le32s_of_drop hitem rfl, le32s_of_drop hserial rfl, le64u_of_drop hpresence rfl, rfl,
    le16u_of_drop hframes rfl, le16u_of_drop hstride rfl, le32s_of_drop (t := more) hcounter rfl⟩

end Machine

/-! ## Operands (R109; the layout is the model's, log 1) -/

@[simp] theorem withOperand_putBytes {k : Bytes → Bytes → Decoded} (bs rest : Bytes) :
    withOperand (getBytes (putBytes bs ++ rest)) k = k bs rest := by
  rw [getBytes_putBytes, withOperand]

@[simp] theorem withOperand_putNat {k : Nat → Bytes → Decoded} (n : Nat) (rest : Bytes) :
    withOperand (getNat (putNat n ++ rest)) k = k n rest := by
  rw [getNat_putNat, withOperand]

@[simp] theorem withOperand_putNats {k : List Nat → Bytes → Decoded} (ns : List Nat) (rest : Bytes) :
    withOperand (getNats (putNats ns ++ rest)) k = k ns rest := by
  rw [getNats_putNats, withOperand]

/-! ## The ports -/

theorem decodeRequest_unassigned {op : Nat} (h : 9 ≤ op) (bs : Bytes) :
    decodeRequest op bs = .instr (.reservedOp op) bs := by
  obtain ⟨n, rfl⟩ := Nat.exists_eq_add_of_le' h
  rfl

theorem decode_request (lit : Bool) {op : Nat} (h : op < 16) (bs : Bytes) :
    decode lit (BitVec.ofNat 8 op :: bs) = decodeRequest op bs := by
  have port : (BitVec.ofNat 8 op).toNat / 16 = 0 := by rw [BitVec.toNat_ofNat]; omega
  have code : (BitVec.ofNat 8 op).toNat % 16 = op := by rw [BitVec.toNat_ofNat]; omega
  rw [decode, port, code]
  rfl

theorem decode_acquirePort (lit : Bool) (bs : Bytes) : decode lit (0x10 :: bs) = decodeAcquire bs := by simp [decode]

theorem decode_framePort (lit : Bool) (bs : Bytes) : decode lit (0x20 :: bs) = decodeFrame bs := by simp [decode]

theorem decode_replyPort (lit : Bool) (bs : Bytes) : decode lit (0x30 :: bs) = decodeReply lit bs := by simp [decode]

theorem decode_packetPort (lit : Bool) (bs : Bytes) : decode lit (0x40 :: bs) = decodePacket bs := by simp [decode]

open Machine

/-- The text of a frame holds no CR and no LF, so its end is found (R81). -/
theorem decodeFrame_frameCommand {text : Bytes} (h : ∀ b ∈ text, isCrlf b = false) (rest : Bytes) :
    decodeFrame (frameCommand text ++ rest) = .instr (.cmdFrame text) rest := by
  have kept : removeCrlf text = text := List.filter_eq_self.mpr fun b hb => by rw [h b hb]; rfl
  have frame : frameCommand text ++ rest = sentinel :: (text ++ cr :: lf :: rest) := by simp [frameCommand, kept]
  have read : (text ++ cr :: lf :: rest).takeWhile (fun c => !isCrlf c) = text := by
    rw [List.takeWhile_append_of_pos fun b hb => by rw [h b hb]; rfl]
    exact List.append_nil text
  simp only [frame, decodeFrame, read, List.drop_left]
  rfl

/-- A reply of a class other than MalformedResponse is found to be of that class, its run of CR and LF apart. -/
theorem classify_trailerOf_reply {lit : Bool} {c : Reply} {body : Bytes} (h : c.body lit = some body) (sent : Bytes)
    {run : Bytes} (hrun : run.all isCrlf = true) :
    classify lit (sentinel :: sent ++ body ++ run) sent = c ∧ trailerOf (sentinel :: sent ++ body ++ run) = run := by
  have isRun : ∀ b ∈ run, isCrlf b = true := List.all_eq_true.mp hrun
  refine ⟨classify_reply h sent isRun, ?_⟩
  have stripped : rstripCrlf (sentinel :: sent ++ body ++ run) = sentinel :: sent ++ body :=
    (classifyStripped_iff h).mp (classify_reply h sent isRun)
  rw [trailerOf, stripped, List.drop_left]

theorem replyInstr_okReply (lit : Bool) (sent payload : Bytes) {run : Bytes} (hrun : run.all isCrlf = true) :
    replyInstr lit sent (okReply sent payload run) = .respOk sent payload run := by
  obtain ⟨isOk, apart⟩ := classify_trailerOf_reply (lit := lit) (c := .ok payload) rfl sent hrun
  rw [okReply_eq, replyInstr, isOk, apart]

theorem replyInstr_unknownReply (lit : Bool) (sent : Bytes) {run : Bytes} (hrun : run.all isCrlf = true) :
    replyInstr lit sent (unknownReply lit sent run) = .respUnknown sent run := by
  obtain ⟨isUnknown, apart⟩ := classify_trailerOf_reply (lit := lit) (c := .unknown) rfl sent hrun
  rw [unknownReply, replyInstr, isUnknown, apart]

theorem replyInstr_wrongReply (lit : Bool) (sent : Bytes) {run : Bytes} (hrun : run.all isCrlf = true) :
    replyInstr lit sent (wrongReply lit sent run) = .respWrong sent run := by
  obtain ⟨isWrong, apart⟩ := classify_trailerOf_reply (lit := lit) (c := .wrong) rfl sent hrun
  rw [wrongReply, replyInstr, isWrong, apart]

theorem replyInstr_malformed {lit : Bool} {sent raw : Bytes} (h : classify lit raw sent = .malformed) :
    replyInstr lit sent raw = .respMalformed sent raw := by
  rw [replyInstr, h]

/-- The row of a reply is that of its class. -/
theorem decode_reply {lit : Bool} {sent raw : Bytes} {i : Instr} (row : replyInstr lit sent raw = i) (rest : Bytes) :
    decode lit (0x30 :: (putBytes sent ++ putBytes raw) ++ rest) = .instr i rest := by
  refine (decode_replyPort lit _).trans ?_
  simp [decodeReply, row]

theorem decodePacket_mkHeader {r : RawHeader} {payload : Bytes} (hr : r.wf = true)
    (hp : payload.length = r.frameCount * r.bytesPerFrame) (rest : Bytes) :
    decodePacket (mkHeader r ++ payload ++ rest) = .instr (.pkt r payload) rest := by
  have header : decodeHeader (mkHeader r ++ (payload ++ rest)) = deriveHeader r :=
    congrArg deriveHeader (decodeRaw_mkHeader hr _)
  have size : (deriveHeader r).payloadSize = payload.length := hp.symm
  have whole : (mkHeader r ++ payload).length = 32 + payload.length := by rw [List.length_append, mkHeader_length hr]
  have body : (mkHeader r ++ (payload ++ rest)).drop 32 = payload ++ rest := List.drop_left' (mkHeader_length hr)
  have after : (mkHeader r ++ (payload ++ rest)).drop (32 + payload.length) = rest := by
    rw [← List.append_assoc]
    exact List.drop_left' whole
  simp only [decodePacket, List.append_assoc, header, packetLen, size, Config.hdrLen, body, after, List.take_left]
  rw [if_pos]
  · rfl
  · simp [mkHeader_length hr]

end Sys2Proof

open Sys2Proof Sys2Proof.Machine

/-- Settles O1: a request by its operands, a wire format by what ends it on its wire. -/
theorem encodedItemsDecode : Obligations.EncodedItemsDecode := by
  intro lit i rest wf
  cases i with
  | enc | decr | dech | connectC | send | connectD | pull =>
    refine (decode_request lit (by decide) _).trans ?_
    simp [decodeRequest, bodyBytes]
  | disconnectC | disconnectD => exact decode_request lit (by decide) rest
  | reservedOp op =>
    simp only [Instr.wf, Bool.and_eq_true, decide_eq_true_eq] at wf
    obtain ⟨low, high⟩ := wf
    exact (decode_request lit (by omega) rest).trans (decodeRequest_unassigned low rest)
  | acquire sampling count chs =>
    refine (decode_acquirePort lit _).trans ?_
    cases sampling <;> simp [decodeAcquire, bodyBytes]
  | cmdFrame text =>
    have noCrlf : ∀ b ∈ text, isCrlf b = false := by simpa [Instr.wf] using wf
    exact (decode_framePort lit _).trans (decodeFrame_frameCommand noCrlf rest)
  | respOk sent payload trailer => exact decode_reply (replyInstr_okReply lit sent payload wf) rest
  | respUnknown sent trailer => exact decode_reply (replyInstr_unknownReply lit sent wf) rest
  | respWrong sent trailer => exact decode_reply (replyInstr_wrongReply lit sent wf) rest
  | respMalformed sent raw => exact decode_reply (replyInstr_malformed (beq_iff_eq.mp wf)) rest
  | pkt r payload =>
    simp only [Instr.wf, Bool.and_eq_true, beq_iff_eq] at wf
    obtain ⟨header, length⟩ := wf
    exact (decode_packetPort lit _).trans (decodePacket_mkHeader header length rest)

/-- Settles O2. -/
theorem writtenOutBytesDecode : Obligations.WrittenOutBytesDecode := by
  unfold Obligations.WrittenOutBytesDecode
  decide

end

section
/-! PROOFS. The pairs of the presence field: O18. -/

namespace Sys2Proof.Machine

/-- A pair is made of its two bits, bit `2i` the low one (R88). -/
theorem pair_eq_testBit (p i : Nat) : pair p i = (p.testBit (2 * i)).toNat + 2 * (p.testBit (2 * i + 1)).toNat := by
  have width : 2 * i + 1 - 2 * i + 1 = 2 := by omega
  have halved : p / 2 ^ (2 * i + 1) = p / 2 ^ (2 * i) / 2 := by rw [pow_succ, Nat.div_div_eq_div_mul]
  rw [pair, bits, width, Nat.and_two_pow_sub_one_eq_mod, Nat.shiftRight_eq_div_pow, Nat.toNat_testBit, Nat.toNat_testBit,
    halved]
  omega

/-- A pair that is not reserved is its low bit. -/
theorem testBit_of_plain_pair {p i : Nat} (plain : pair p i < 2) :
    p.testBit (2 * i + 1) = false ∧ p.testBit (2 * i) = (pair p i == 1) := by
  rw [pair_eq_testBit] at plain ⊢
  revert plain
  cases p.testBit (2 * i + 1) <;> cases p.testBit (2 * i) <;> decide

/-- Over the first `n` pairs, none of them reserved, the pairs `01` are as many as the 1 bits (R89). -/
theorem countP_pairs_eq_bits {p : Nat} (n : Nat) (plain : ∀ i < n, pair p i < 2) :
    (List.range n).countP (fun i => pair p i == 1) = (List.range (2 * n)).countP fun b => p.testBit b := by
  induction n with
  | zero => rfl
  | succ n ih =>
    obtain ⟨high, low⟩ := testBit_of_plain_pair (plain n (Nat.lt_succ_self n))
    have two : 2 * (n + 1) = 2 * n + 1 + 1 := by omega
    simp only [two, List.range_succ, List.append_assoc]
    simp [ih fun i h => plain i (Nat.lt_succ_of_lt h), List.countP_cons, high, low]

theorem hasReservedPair_eq_false_iff (p : Nat) : hasReservedPair p = false ↔ ∀ i < 32, pair p i < 2 := by
  simp [hasReservedPair, Config.maxSlots]

end Sys2Proof.Machine

open Sys2Proof.Machine

/-- Settles O18: the pairs are counted two bits at a time. -/
theorem channelCountOfPlainFields : Obligations.ChannelCountOfPlainFields := by
  refine ⟨channelCountOf_le, fun p _ plain => ?_⟩
  rw [← List.countP_eq_length_filter]
  exact countP_pairs_eq_bits 32 ((hasReservedPair_eq_false_iff p).mp plain)

end

section
/-! PROOFS. The unassigned codes and the rows of the wire: O27 and O56. -/

namespace Sys2Proof.Machine

/-- Where a frame is not the next of the outgoing stream there is nothing to take. -/
theorem textTake_of_not_front {s : State} {bs : Bytes} (h : ¬ bs <+: s.env.textTx) : textTake bs s = s := by
  rw [textTake, if_neg]
  intro front
  obtain ⟨rest, hrest⟩ := (startsWith_iff _ _).mp front
  exact h ⟨rest, hrest.symm⟩

end Sys2Proof.Machine

open Sys2Proof.Machine

/-- Settles O27. -/
theorem unassignedCodesAreRefused : Obligations.UnassignedCodesAreRefused := fun _ _ _ _ => rfl

/-- Settles O56: a frame passes exactly where it stands at the front; the other rows only arrive. -/
theorem wireRowsPass : Obligations.WireRowsPass := by
  intro s
  refine ⟨fun text rest front => ?_, fun text absent => ?_, fun _ _ _ => rfl, fun _ _ => rfl, fun _ _ => rfl,
    fun _ _ => rfl, fun _ _ => rfl⟩
  · exact congrArg Host.Outcome.next (textTake_front front)
  · exact congrArg Host.Outcome.next (textTake_of_not_front absent)

end

section
/-! PROOFS. The Wire Codec: the header round trip (O14), the laws and the answers of ENC (O5, O6), of DECR (O10, O11) and of
DECH (O12, O13). -/

namespace Sys2Proof.Machine

/-! ## MkHeader after DECH (R138) -/

theorem slice_append {s : Bytes} {a b c : Nat} (hab : a ≤ b) (hbc : b ≤ c) : slice s a b ++ slice s b c = slice s a c := by
  have width : c - a = (b - a) + (c - b) := by omega
  have start : b = a + (b - a) := by omega
  rw [slice, slice, slice, width, List.take_add, List.drop_drop, ← start]

/-- The bytes of a natural written in two parts are those of the low part and of the high part. -/
theorem leBytes_append (m n : Nat) {low : Nat} (high : Nat) (lt : low < 256 ^ m) :
    leBytes (m + n) (low + 256 ^ m * high) = leBytes m low ++ leBytes n high := by
  induction m generalizing low with
  | zero =>
    obtain rfl : low = 0 := by simpa using lt
    simp [leBytes]
  | succ m ih =>
    have scale : low + 256 ^ (m + 1) * high = low + 256 * (256 ^ m * high) := by ring
    have lowestByte : BitVec.ofNat 8 (low + 256 * (256 ^ m * high)) = BitVec.ofNat 8 low := by
      apply BitVec.eq_of_toNat_eq
      simp [BitVec.toNat_ofNat]
    have others : (low + 256 * (256 ^ m * high)) / 256 = low / 256 + 256 ^ m * high := by omega
    have lt' : low / 256 < 256 ^ m := by rw [pow_succ] at lt; omega
    rw [Nat.succ_add, scale, leBytes, leBytes, lowestByte, others, ih lt', List.cons_append]

/-- A value whose low and high part are written as the bytes at their offsets is written as all those bytes. -/
theorem leBytes_join {s : Bytes} {o m n low high : Nat} (lt : low < 256 ^ m) (hlow : leBytes m low = slice s o (o + m))
    (hhigh : leBytes n high = slice s (o + m) (o + m + n)) :
    leBytes (m + n) (low + 256 ^ m * high) = slice s o (o + m + n) := by
  rw [leBytes_append m n high lt, hlow, hhigh, slice_append (by omega) (by omega)]

theorem leBytes_byteAt {s : Bytes} {o : Nat} (len : o + 1 ≤ s.length) : leBytes 1 (byteAt s o) = slice s o (o + 1) := by
  have width : o + 1 - o = 1 := by omega
  rw [slice, width, List.drop_eq_getElem_cons len, List.take_succ_cons, List.take_zero]
  simp [leBytes, byteAt, List.getElem?_eq_getElem len]

/-- What a read gives is written as the bytes it was read from (R50). -/
theorem leBytes_le16u {s : Bytes} {o : Nat} (len : o + 2 ≤ s.length) : leBytes 2 (le16u s o) = slice s o (o + 2) :=
  leBytes_join (m := 1) (n := 1) (byteAt_lt s o) (leBytes_byteAt (by omega)) (leBytes_byteAt (by omega))

theorem leBytes_le32u {s : Bytes} {o : Nat} (len : o + 4 ≤ s.length) : leBytes 4 (le32u s o) = slice s o (o + 4) := by
  rw [le32u_eq_le16u]
  exact leBytes_join (m := 2) (n := 2) (le16u_lt s o) (leBytes_le16u (by omega)) (leBytes_le16u (by omega))

theorem leBytes_le64u {s : Bytes} {o : Nat} (len : o + 8 ≤ s.length) : leBytes 8 (le64u s o) = slice s o (o + 8) := by
  rw [le64u_eq_le32u]
  exact leBytes_join (m := 4) (n := 4) (le32u_lt s o) (leBytes_le32u (by omega)) (leBytes_le32u (by omega))

theorem le32Bytes_le32s {s : Bytes} {o : Nat} (len : o + 4 ≤ s.length) : le32Bytes (le32s s o) = slice s o (o + 4) := by
  have unsigned : (le32s s o % 2 ^ 32).toNat = le32u s o := by
    have congruent := sext32_sub_emod (le32u s o)
    have lt := le32u_lt s o
    rw [le32s]
    omega
  rw [le32Bytes, unsigned, leBytes_le32u len]

/-- The eight fields are written back where they stood. -/
theorem mkHeader_decodeRaw {h : Bytes} (len : 32 ≤ h.length) : mkHeader (decodeRaw h) = h.take 32 := by
  simp only [mkHeader, decodeRaw]
  rw [le32Bytes_le32s (by omega), le32Bytes_le32s (by omega), leBytes_le64u (by omega), leBytes_le16u (by omega),
    leBytes_le16u (by omega), le32Bytes_le32s (by omega)]
  simp only [slice_append, Nat.reduceAdd, Nat.reduceLeDiff]
  rfl

/-- A header reads the same with bytes after it: it is the one MkHeader writes of its fields (R135). -/
theorem decodeRaw_append {h : Bytes} (len : h.length = 32) (more : Bytes) : decodeRaw (h ++ more) = decodeRaw h := by
  have written : mkHeader (decodeRaw h) = h := by rw [mkHeader_decodeRaw len.ge, List.take_of_length_le len.le]
  calc decodeRaw (h ++ more) = decodeRaw (mkHeader (decodeRaw h) ++ more) := by rw [written]
    _ = decodeRaw h := decodeRaw_mkHeader (decodeRaw_wf len.ge) more

/-! ## The text of a frame (R15, R81, R122) -/

theorem mem_removeCrlf (s : Bytes) (b : Byte) : b ∈ removeCrlf s ↔ b ∈ s ∧ b ≠ 0x0D ∧ b ≠ 0x0A := by
  simp [removeCrlf, isCrlf, cr, lf]

theorem removeCrlf_removeCrlf (s : Bytes) : removeCrlf (removeCrlf s) = removeCrlf s := by
  simp [removeCrlf]

/-- A frame is sentinel and text, then CR and LF. -/
theorem frameCommand_eq (name : Bytes) : frameCommand name = (sentinel :: removeCrlf name) ++ [cr, lf] := rfl

theorem frameCommand_length (name : Bytes) : (frameCommand name).length = (removeCrlf name).length + 3 := by
  simp [frameCommand_eq]

theorem frameCommand_take (name : Bytes) :
    (frameCommand name).take ((removeCrlf name).length + 1) = sentinel :: removeCrlf name :=
  List.take_left' rfl

theorem frameCommand_drop (name : Bytes) : (frameCommand name).drop ((removeCrlf name).length + 1) = [cr, lf] :=
  List.drop_left

theorem frameCommand_eq_iff (a b : Bytes) : frameCommand a = frameCommand b ↔ removeCrlf a = removeCrlf b := by
  simp [frameCommand_eq]

/-! ## The classes of a reply without an echo (R127) -/

theorem startsWith_iff_isPrefix (s p : Bytes) : startsWith s p = true ↔ p <+: s := by
  rw [startsWith_iff]
  exact exists_congr fun t => eq_comm

theorem classify_of_no_echo {raw sent : Bytes} (lit : Bool) (absent : ¬ (sentinel :: sent) <+: rstripCrlf raw) :
    classify lit raw sent = .malformed := by
  rw [classify, classifyStripped, if_neg]
  rwa [startsWith_iff_isPrefix]

/-! ## The pairs as digits to the base 4 (R88, R89) -/

theorem pair_eq_digit (p i : Nat) : pair p i = p / 4 ^ i % 4 := by
  have width : 2 * i + 1 - 2 * i + 1 = 2 := by omega
  rw [pair, bits, width, Nat.and_two_pow_sub_one_eq_mod, Nat.shiftRight_eq_div_pow, pow_mul]
  rfl

theorem channelCountOf_eq_digits (p : Nat) :
    channelCountOf p = ((List.range 32).filter fun i => p / 4 ^ i % 4 = 1).length := by
  simp only [channelCountOf, pair_eq_digit, List.countP_eq_length_filter]
  rfl

/-! ## A request that ends in the step that accepts it (R40, R41, R232) -/

/-- It leaves BUSY as acceptance found it: of the whole state only the results have changed. -/
theorem present_accepted {s : State} (idle : s.busy = false) (r : Result) :
    present r (setBusy true s) = { s with env := { s.env with results := s.env.results ++ [r] } } := by
  have unset : setBusy false s = s := by rw [← idle]; rfl
  exact congrArg (setEnv { s.env with results := s.env.results ++ [r] }) unset

theorem raise_accepted {s : State} (idle : s.busy = false) (e : Err) :
    raise e (setBusy true s) = { s with ph := .idle, env := { s.env with results := s.env.results ++ [.err e] } } :=
  present_accepted (s := setPh .idle s) idle (.err e)

theorem exec_enc {s : State} (idle : s.busy = false) (name : Bytes) :
    exec (.enc name) s = .next (finish (.bytes (frameCommand name)) (setBusy true s)) := by
  rw [exec, execEnc, accept_eq idle]

theorem exec_decr {s : State} (idle : s.busy = false) (raw sent : Bytes) :
    exec (.decr raw sent) s =
      .next (conclude (replyResult (classify s.params.errLiteralWithSentinel raw sent) sent raw) (setBusy true s)) := by
  rw [exec, execDecr, accept_eq idle, setBusy_params]

theorem exec_dech_short {s : State} {h : Bytes} (idle : s.busy = false) (short : h.length < 32) :
    exec (.dech h) s = .next (raise (.headerTooShort h.length) (setBusy true s)) := by
  rw [exec, execDech, accept_eq idle, Config.hdrLen, if_pos short]

theorem exec_dech {s : State} {h : Bytes} (idle : s.busy = false) (len : 32 ≤ h.length) :
    exec (.dech h) s = .next (finish (.header (decodeHeader h)) (setBusy true s)) := by
  rw [exec, execDech, accept_eq idle, Config.hdrLen, if_neg (Nat.not_lt.mpr len)]

/-- A PULL reads a header only when 32 bytes are buffered, so no end of it is HeaderTooShort (R134). -/
theorem Micro.not_headerTooShort {s t : State} (h : Micro s t) (n : Nat) :
    t.env.results ≠ s.env.results ++ [.err (.headerTooShort n)] := by
  cases h with
  | loopGoesOn | headerBuffered | wholeBuffered | headerFits | extracts | drops | loopEnds | outOfRange => simp
  | reads e _ frame | shortReturn e frame | incomplete e frame | fails e _ frame => simp [frame.results]

end Sys2Proof.Machine

open Sys2Proof.Machine

/-- Settles O14: the bytes of each field are written back where it was read, and a header is what MkHeader writes. -/
theorem headerRoundTrip : Obligations.HeaderRoundTrip := by
  refine ⟨fun r wf => ⟨mkHeader_length wf, ?_⟩, fun h len => mkHeader_decodeRaw len, fun h more len => ?_⟩
  · rw [← List.append_nil (mkHeader r)]
    exact decodeRaw_mkHeader wf []
  · exact congrArg deriveHeader (decodeRaw_append len more)

/-- Settles O6. -/
theorem encLaws : Obligations.EncLaws := by
  refine ⟨fun name => ⟨frameCommand_length name, rfl, frameCommand_drop name, fun b hb => ?_, ?_⟩, frameCommand_eq_iff,
    mem_removeCrlf⟩
  · rw [frameCommand_take] at hb
    rcases List.mem_cons.mp hb with rfl | hb
    · decide
    · exact ((mem_removeCrlf name b).mp hb).2
  · exact (frameCommand_eq_iff _ _).mpr (removeCrlf_removeCrlf name)

/-- Settles O5. -/
theorem encAnswersTheFrame : Obligations.EncAnswersTheFrame := fun _ name idle =>
  (exec_enc idle name).trans (congrArg _ (present_accepted idle (.ok _)))

/-- Settles O10: the end of the operation by the result of each class. -/
theorem decrAnswersTheClass : Obligations.DecrAnswersTheClass := by
  intro s raw sent idle
  refine ⟨fun p hc => ?_, fun hc => ?_, fun hc => ?_, fun hc => ?_⟩ <;> rw [exec_decr idle, hc]
  · exact congrArg _ (present_accepted idle (.ok (.bytes p)))
  · exact congrArg _ (raise_accepted idle (.unknown sent raw))
  · exact congrArg _ (raise_accepted idle (.wrong sent raw))
  · exact congrArg _ (raise_accepted idle (.malformed sent raw))

/-- Settles O11: without the echo the class is MalformedResponse, which O10 answers. -/
theorem echoIsTestedFirst : Obligations.EchoIsTestedFirst := by
  intro s raw sent idle absent
  obtain ⟨-, -, -, malformed⟩ := decrAnswersTheClass s raw sent idle
  exact malformed (classify_of_no_echo _ absent)

/-- Settles O12: the channels are the digits 1 of the presence field to the base 4. -/
theorem dechDecodesTheFields : Obligations.DechDecodesTheFields := by
  intro s h idle len
  rw [← channelCountOf_eq_digits]
  exact (exec_dech idle len).trans (congrArg _ (present_accepted idle (.ok (.header (decodeHeader h)))))

/-- Settles O13: DECH by its test of the length, a micro-step by `Micro`. -/
theorem dechTooShort : Obligations.DechTooShort :=
  ⟨fun _ _ idle short => (exec_dech_short idle short).trans (congrArg _ (raise_accepted idle _)),
    fun _ _ n h => (microStep_next h).not_headerTooShort n⟩

end

section
/-! PROOFS. The Command Channel: what its operations keep (O22), and the answers of CONNECT_C (O19), SEND (O20) and
DISCONNECT_C (O21). -/

namespace Sys2Proof.Machine

/-! ## The three requests (R150, R154, R160) -/

theorem exec_connectC {s : State} (idle : s.busy = false) (down : s.csC = .down) (host port timeout : Bytes) :
    exec (.connectC host port timeout) s =
      .next (conclude (connectCRun host port timeout (setBusy true s)).1
        (connectCRun host port timeout (setBusy true s)).2) := by
  rw [exec, execConnectC, accept_eq idle, setBusy_csC, if_pos down]

theorem exec_send {s : State} (idle : s.busy = false) (up : s.csC = .up) (cmd : Bytes) :
    exec (.send cmd) s =
      .next (conclude (sendRun cmd (setBusy true s)).1 (forgetCmd (sendRun cmd (setBusy true s)).2)) := by
  rw [exec, execSend, accept_eq idle, setBusy_csC, if_pos up]

theorem exec_disconnectC {s : State} (idle : s.busy = false) (held : s.csC ≠ .down) :
    exec .disconnectC s = .next (finish .none (setCsC .down (callDisconnect .text (setBusy true s)))) := by
  rw [exec, execDisconnectC, accept_eq idle, setBusy_csC, if_neg held]

theorem conclude_env (r : Result) (s : State) :
    (conclude r s).env = { s.env with results := s.env.results ++ [r] } := by
  cases r <;> rfl

theorem conclude_cmd (r : Result) (s : State) : (conclude r s).cmd = s.cmd := by
  cases r <;> rfl

/-! ## The binary side of the ports (R161) -/

/-- The part of the ports that only the Stream Channel reads and writes: the coming chunks and the binary transport. -/
def Env.binarySide (e : Env) : List ReadChoice × Bytes := (e.chunkAns, e.binRx)

@[simp] theorem callConnect_binarySide (w : Channel) (host port timeout : Bytes) (s : State) :
    (callConnect w host port timeout s).2.env.binarySide = s.env.binarySide := by
  dsimp only [callConnect]
  split <;> rfl

@[simp] theorem nextTx_binarySide (s : State) : (nextTx s).2.env.binarySide = s.env.binarySide := by
  unfold nextTx
  split <;> rfl

@[simp] theorem txC_binarySide (bs : Bytes) (s : State) : (txC bs s).2.env.binarySide = s.env.binarySide := by
  dsimp only [txC]
  split <;> exact nextTx_binarySide (noteCall (.tx bs) s)

@[simp] theorem nextText_binarySide (s : State) : (nextText s).2.env.binarySide = s.env.binarySide := by
  unfold nextText
  split <;> rfl

@[simp] theorem rxAvailC_binarySide (s : State) : (rxAvailC s).2.env.binarySide = s.env.binarySide := by
  dsimp only [rxAvailC]
  split <;> exact nextText_binarySide (noteCall .rxAvail s)

theorem connectCRun_binarySide (host port timeout : Bytes) (s : State) :
    (connectCRun host port timeout s).2.env.binarySide = s.env.binarySide := by
  dsimp only [connectCRun]
  split
  · simp
  · split <;> simp

theorem sendRun_binarySide (cmd : Bytes) (s : State) : (sendRun cmd s).2.env.binarySide = s.env.binarySide := by
  dsimp only [sendRun]
  split
  · simp
  · split <;> simp [settle]

/-! ## What an operation keeps up to its result (R161) -/

/-- What the Command Channel operation `i`, begun in `s`, has left as it was when it is in `u`, about to present its
result. -/
structure TextRun (i : Instr) (s u : State) : Prop where
  stream : SameStream s u
  ports : Env.Frame s.env u.env
  binary : u.env.binarySide = s.env.binarySide
  cmd : (∀ c, i ≠ .send c) → u.cmd = s.cmd
  link : (∃ c, i = .send c) → u.csC = .up ∨ u.csC = .dead

theorem connectC_textRun {s : State} (down : s.csC = .down) (host port timeout : Bytes) :
    TextRun (.connectC host port timeout) s (connectCRun host port timeout (setBusy true s)).2 := by
  have binary := connectCRun_binarySide host port timeout (setBusy true s)
  obtain ⟨e, l, hrun, frame⟩ := connectCRun_state host port timeout (setBusy true s) down
  rw [hrun] at binary ⊢
  exact { stream := by constructor <;> rfl, ports := frame, binary := binary, cmd := fun _ => rfl, link := nofun }

theorem send_textRun {s : State} (up : s.csC = .up) (cmd : Bytes) :
    TextRun (.send cmd) s (forgetCmd (sendRun cmd (setBusy true s)).2) := by
  have binary := sendRun_binarySide cmd (setBusy true s)
  obtain ⟨e, l, hrun, frame, link⟩ := sendRun_state cmd (setBusy true s) up
  rw [hrun] at binary ⊢
  exact {
    stream := by constructor <;> rfl
    ports := frame
    binary := binary
    cmd := fun other => absurd rfl (other cmd)
    link := fun _ => link }

theorem disconnectC_textRun (s : State) :
    TextRun .disconnectC s (setCsC .down (callDisconnect .text (setBusy true s))) where
  stream := by constructor <;> rfl
  ports := ⟨rfl, rfl, rfl⟩
  binary := rfl
  cmd _ := rfl
  link := nofun

/-! ## The port primitives, their answer laid down (R247, R249, R250) -/

theorem callConnect_laid {s : State} {a : DoneAnswer} {cs : List DoneAnswer} (laid : s.env.connectAns = a :: cs)
    (w : Channel) (host port timeout : Bytes) :
    callConnect w host port timeout s =
      (a, setEnv { s.env with connectAns := cs, calls := s.env.calls ++ [.connect w host port timeout] } s) := by
  simp only [callConnect, noteCall, setEnv_env, laid]
  rfl

theorem txC_done {s : State} {ds : List DoneAnswer} (laid : s.env.txAns = .done :: ds) (bs : Bytes) :
    txC bs s = (.done, setEnv { s.env with
      txAns := ds, textTx := s.env.textTx ++ bs, calls := s.env.calls ++ [.tx bs] } s) := by
  simp only [txC, nextTx, noteCall, setEnv_env, laid]
  rfl

theorem txC_fail {s : State} {cause : Bytes} {ds : List DoneAnswer} (laid : s.env.txAns = .fail cause :: ds)
    (bs : Bytes) :
    ∃ part o, part <+: bs ∧ txC bs s = (.fail cause, setEnv { s.env with
      txAns := ds, textTx := s.env.textTx ++ part, oracleTick := o, calls := s.env.calls ++ [.tx bs] } s) := by
  refine ⟨bs.take (Config.freeSent s.env.oracleTick), s.env.oracleTick + 1, List.take_prefix _ _, ?_⟩
  simp only [txC, nextTx, noteCall, setEnv_env, laid]
  rfl

theorem rxAvailC_fail {s : State} {cause : Bytes} {ts : List TextAnswer} (laid : s.env.textAns = .fail cause :: ts) :
    rxAvailC s = (.fail cause, setEnv { s.env with textAns := ts, calls := s.env.calls ++ [.rxAvail] } s) := by
  simp only [rxAvailC, nextText, noteCall, setEnv_env, laid]
  rfl

theorem rxAvailC_bytes {s : State} {fresh : Bytes} {ts : List TextAnswer} (laid : s.env.textAns = .bytes fresh :: ts) :
    rxAvailC s = (.bytes (takeMax s.params.cmdReadMax (s.env.textRx ++ fresh)), setEnv { s.env with
      textAns := ts
      textRx := dropMax s.params.cmdReadMax (s.env.textRx ++ fresh)
      calls := s.env.calls ++ [.rxAvail] } s) := by
  simp only [rxAvailC, nextText, noteCall, setEnv_env, laid]
  rfl

/-! ## CONNECT_C, its answers laid down (R150, R152) -/

section
variable {s : State} {cs : List DoneAnswer} {ts : List TextAnswer} {cause fresh : Bytes}

theorem connectCRun_connect_fails (failed : s.env.connectAns = .fail cause :: cs) (host port timeout : Bytes) :
    connectCRun host port timeout s = (.err (.connection cause none), setEnv { s.env with
      connectAns := cs, calls := s.env.calls ++ [.connect .text host port timeout] } s) := by
  rw [connectCRun, callConnect_laid failed]

theorem connectCRun_drain_fails (connected : s.env.connectAns = .done :: cs)
    (failed : s.env.textAns = .fail cause :: ts) (host port timeout : Bytes) :
    connectCRun host port timeout s = (.err (.connection cause none), setCsC .dead (setEnv { s.env with
      connectAns := cs
      textAns := ts
      calls := s.env.calls ++ [.connect .text host port timeout, .rxAvail] } s)) := by
  rw [connectCRun, callConnect_laid connected]
  dsimp only
  rw [rxAvailC_fail (by exact failed)]
  simp [setCsC, setEnv]

theorem connectCRun_succeeds (connected : s.env.connectAns = .done :: cs)
    (drained : s.env.textAns = .bytes fresh :: ts) (host port timeout : Bytes) :
    connectCRun host port timeout s = (.ok .none, setCsC .up (setEnv { s.env with
      connectAns := cs
      textAns := ts
      textRx := dropMax s.params.cmdReadMax (s.env.textRx ++ fresh)
      calls := s.env.calls ++ [.connect .text host port timeout, .rxAvail] } s)) := by
  rw [connectCRun, callConnect_laid connected]
  dsimp only
  rw [rxAvailC_bytes (by exact drained)]
  simp [setCsC, setEnv]

end

/-! ## SEND, its answers laid down (R154, R156, R157) -/

section
variable {s : State} {ds : List DoneAnswer} {ts : List TextAnswer} {cause fresh : Bytes}

theorem sendRun_write_fails (failed : s.env.txAns = .fail cause :: ds) (cmd : Bytes) :
    ∃ part o, part <+: frameCommand cmd ∧ sendRun cmd s =
      (.err (.connection cause (some cmd)), setCsC .dead (setEnv { s.env with
        txAns := ds
        textTx := s.env.textTx ++ part
        oracleTick := o
        calls := s.env.calls ++ [.tx (frameCommand cmd)] } (setCmd cmd s))) := by
  obtain ⟨part, o, front, written⟩ := txC_fail (s := setCmd cmd s) failed (frameCommand cmd)
  refine ⟨part, o, front, ?_⟩
  simp only [sendRun, setCmd_cmd, written]
  rfl

theorem sendRun_read_fails (written : s.env.txAns = .done :: ds) (failed : s.env.textAns = .fail cause :: ts)
    (cmd : Bytes) :
    sendRun cmd s = (.err (.connection cause (some cmd)), setCsC .dead (setEnv { s.env with
      txAns := ds
      textAns := ts
      textTx := s.env.textTx ++ frameCommand cmd
      calls := s.env.calls ++ [.tx (frameCommand cmd), .rxAvail] } (setCmd cmd s))) := by
  simp only [sendRun, settle, setCmd_cmd, txC_done (s := setCmd cmd s) written]
  rw [rxAvailC_fail (by exact failed)]
  simp [setCsC, setEnv]

theorem sendRun_decodes (written : s.env.txAns = .done :: ds) (read : s.env.textAns = .bytes fresh :: ts)
    (cmd : Bytes) :
    (sendRun cmd s).2 = setEnv { s.env with
      txAns := ds
      textAns := ts
      textTx := s.env.textTx ++ frameCommand cmd
      textRx := dropMax s.params.cmdReadMax (s.env.textRx ++ fresh)
      calls := s.env.calls ++ [.tx (frameCommand cmd), .rxAvail] } (setCmd cmd s) := by
  simp only [sendRun, settle, setCmd_cmd, txC_done (s := setCmd cmd s) written]
  rw [rxAvailC_bytes (by exact read)]
  simp [setEnv]

end

/-! ## The end of SEND (R30, R157) -/

/-- A transport failure ends the exchange: CS_C is DEAD, PH is IDLE, and CMD holds no meaning. -/
theorem sendFailure_eq {s : State} (idle : s.busy = false) (cmd : Bytes) (e : Env) (err : Err) :
    conclude (.err err) (forgetCmd (setCsC .dead (setEnv e (setCmd cmd (setBusy true s))))) = { s with
      cmd := Config.freeCmd s.freeTick
      freeTick := s.freeTick + 1
      csC := .dead
      ph := .idle
      env := { e with results := e.results ++ [.err err] } } := by
  rw [idle]
  rfl

/-- The end of an operation sets BUSY to 0, whatever acceptance made of it. -/
theorem conclude_setBusy (r : Result) (b : Bool) (s : State) : conclude r (setBusy b s) = conclude r s := by
  cases r <;> rfl

end Sys2Proof.Machine

open Sys2Proof.Machine

/-- Settles O22: each operation ends by its one result in a state its run has left alone but for CS_C and CMD. -/
theorem commandChannelFrame : Obligations.CommandChannelFrame := by
  intro s i idle ph request
  have ended : ∃ u r, exec i s = .next (conclude r u) ∧ TextRun i s u := by
    obtain ⟨⟨host, port, timeout, rfl⟩, down⟩ | ⟨⟨cmd, rfl⟩, up⟩ | ⟨rfl, held⟩ := request
    · exact ⟨_, _, exec_connectC idle down host port timeout, connectC_textRun down host port timeout⟩
    · exact ⟨_, _, exec_send idle up cmd, send_textRun up cmd⟩
    · exact ⟨_, .ok .none, exec_disconnectC idle held, disconnectC_textRun s⟩
  obtain ⟨u, r, answer, stream, ports, binary, cmd, link⟩ := ended
  obtain ⟨sb, sbValid, csD, req, chsel, emitted, out, flat, phase, hdr, params⟩ := stream.conclude ph r
  obtain ⟨chunks, rx⟩ := Prod.mk.inj binary
  refine ⟨conclude r u, r, answer, ?_, conclude_busy r u, phase.trans ph, sb, sbValid, csD, req, chsel, emitted, out,
    flat, hdr, params, ?_⟩
  · rw [conclude_results, ports.results]
  · rw [conclude_env, conclude_cmd, conclude_csC]
    exact ⟨ports.input, ports.agenda, chunks, rx, cmd, link⟩

/-- Settles O19: the failed connect, the failed drain and the success. -/
theorem connectCAnswers : Obligations.ConnectCAnswers := by
  intro s host port timeout idle down
  rw [exec_connectC idle down, idle]
  refine ⟨fun cause cs failed => ?_, fun cs cause ts connected failed => ?_, fun cs fresh ts connected drained => ?_⟩
  · rw [connectCRun_connect_fails (s := setBusy true s) failed]
    rfl
  · rw [connectCRun_drain_fails (s := setBusy true s) connected failed]
    rfl
  · rw [connectCRun_succeeds (s := setBusy true s) connected drained]
    rfl

/-- Settles O20: the failed write, the failed read and the decoded reply. -/
theorem sendAnswers : Obligations.SendAnswers := by
  intro s cmd idle up
  rw [exec_send idle up]
  refine ⟨fun cause ds failed => ?_, fun ds cause ts written failed => ?_, fun ds fresh ts raw written read hraw => ?_⟩
  · obtain ⟨part, o, front, hrun⟩ := sendRun_write_fails (s := setBusy true s) failed cmd
    rw [hrun]
    exact ⟨_, _, part, o, front, congrArg _ (sendFailure_eq idle cmd _ _)⟩
  · rw [sendRun_read_fails (s := setBusy true s) written failed]
    exact ⟨_, _, congrArg _ (sendFailure_eq idle cmd _ _)⟩
  · subst hraw
    rw [sendRun_result (s := setBusy true s) cmd written read, sendRun_decodes (s := setBusy true s) written read]
    exact ⟨_, _, congrArg _ (conclude_setBusy _ true (forgetCmd (setEnv _ s)))⟩

/-- Settles O21. -/
theorem disconnectCAnswers : Obligations.DisconnectCAnswers := fun s idle held =>
  (exec_disconnectC idle held).trans
    (congrArg _ (present_accepted (s := setCsC .down (callDisconnect .text s)) idle (.ok .none)))

end

section
/-! PROOFS. The micro-steps of PULL as equations: LOOP (O31), HDR_WAIT (O32), HDR_CHECK (O33), PAY_WAIT (O34), EXTRACT
(O35) and DROP (O36). -/

namespace Sys2Proof.Machine

/-- The micro-step needs bytes that are not buffered, so it reads: the header in HDR_WAIT (R179), the packet in PAY_WAIT
(R183). -/
def Starved (s : State) : Prop :=
  s.ph = .hdrWait ∧ s.sb.length < 32 ∨ s.ph = .payWait ∧ s.sb.length < packetLen s.hdr

section
variable {s v : State}

theorem step_running (input : s.env.input = none) (busy : s.busy = true) : step s = microStep s := by
  rw [step, input]
  exact if_pos busy

/-! ## LOOP (R178) -/

theorem microStep_loop_ends (ph : s.ph = .loop) (reached : s.req ≤ s.emitted) : microStep s = .next (finishPull s) := by
  rw [microStep, ph]
  exact if_pos reached

theorem microStep_loop_goes_on (ph : s.ph = .loop) (wants : s.emitted < s.req) :
    microStep s = .next (setPh .hdrWait s) := by
  rw [microStep, ph]
  exact if_neg (Nat.not_le.mpr wants)

/-! ## HDR_WAIT and PAY_WAIT (R179, R183, R249) -/

theorem microStep_header_buffered (ph : s.ph = .hdrWait) (len : 32 ≤ s.sb.length) :
    microStep s = .next (setPh .hdrCheck s) := by
  rw [microStep, ph]
  exact if_pos len

theorem microStep_packet_buffered (ph : s.ph = .payWait) (whole : packetLen s.hdr ≤ s.sb.length) :
    microStep s = .next (setPh .extract s) := by
  rw [microStep, ph]
  exact if_pos whole

theorem microStep_short_return {ans : ChunkAnswer} (ph : s.ph = .hdrWait) (short : s.sb.length < 32)
    (read : rxD s.params.chunkMax s = (ans, v)) (stop : ans = .timeout ∨ ans = .eof) :
    microStep s = .next (finishPull v) := by
  rw [microStep, ph]
  dsimp only
  rw [microHdrWait, Config.hdrLen, if_neg (Nat.not_le.mpr short), read]
  rcases stop with rfl | rfl <;> rfl

theorem microStep_incomplete {ans : ChunkAnswer} (ph : s.ph = .payWait) (short : s.sb.length < packetLen s.hdr)
    (read : rxD s.params.chunkMax s = (ans, v)) (stop : ans = .timeout ∨ ans = .eof) :
    microStep s = .next (raisePull (.incompletePacket v.hdr v.sb.length (packetLen v.hdr))
      (forgetSb (setSbValid false v))) := by
  rw [microStep, ph]
  dsimp only
  rw [microPayWait, if_neg (Nat.not_le.mpr short), read]
  rcases stop with rfl | rfl <;> rfl

theorem microStep_chunk {bs : Bytes} (need : Starved s) (read : rxD s.params.chunkMax s = (.chunk bs, v)) :
    microStep s = sbAppend bs v := by
  obtain ⟨ph, short⟩ | ⟨ph, short⟩ := need <;> rw [microStep, ph] <;> dsimp only
  · rw [microHdrWait, Config.hdrLen, if_neg (Nat.not_le.mpr short), read]
  · rw [microPayWait, if_neg (Nat.not_le.mpr short), read]

theorem microStep_read_fails {cause : Bytes} (need : Starved s)
    (read : rxD s.params.chunkMax s = (.fail cause, v)) :
    microStep s = .next (raisePull (.connection cause none) (setCsD .dead v)) := by
  obtain ⟨ph, short⟩ | ⟨ph, short⟩ := need <;> rw [microStep, ph] <;> dsimp only
  · rw [microHdrWait, Config.hdrLen, if_neg (Nat.not_le.mpr short), read]
  · rw [microPayWait, if_neg (Nat.not_le.mpr short), read]

/-- A read whose decision is laid down gives bytes, or it gives none. -/
theorem rxD_chunk {fresh : Bytes} {most : Nat} {rest : List ReadChoice}
    (laid : s.env.chunkAns = .arrive fresh most :: rest) (some : readBytes s fresh most ≠ []) :
    rxD s.params.chunkMax s = (.chunk (readBytes s fresh most), afterRead s rest (leftBytes s fresh most)) := by
  rw [rxD_arrive laid, if_neg (by simpa using some)]

theorem rxD_noBytes {a : ReadChoice} {left : Bytes} {rest : List ReadChoice} (laid : s.env.chunkAns = a :: rest)
    (none : noBytes s a left) :
    ∃ ans, (ans = .timeout ∨ ans = .eof) ∧ rxD s.params.chunkMax s = (ans, afterRead s rest left) := by
  obtain ⟨rfl | rfl, rfl⟩ | ⟨fresh, most, rfl, empty, rfl⟩ := none
  · exact ⟨.timeout, .inl rfl, rxD_timeout laid⟩
  · exact ⟨.eof, .inr rfl, rxD_eof laid⟩
  · refine ⟨.eof, .inr rfl, ?_⟩
    rw [rxD_arrive laid, if_pos (by simpa using empty)]

/-- A chunk that fits SB_CAP is appended to SB (R12, R23). -/
theorem microStep_reads {fresh : Bytes} {most : Nat} {rest : List ReadChoice} (need : Starved s)
    (laid : s.env.chunkAns = .arrive fresh most :: rest) (some : readBytes s fresh most ≠ [])
    (fits : Memory.wf s.params.sbCap (s.sb ++ readBytes s fresh most) = true) :
    microStep s = .next { afterRead s rest (leftBytes s fresh most) with sb := s.sb ++ readBytes s fresh most } := by
  rw [microStep_chunk need (rxD_chunk laid some)]
  exact if_pos fits

theorem microStep_overflows {fresh : Bytes} {most : Nat} {rest : List ReadChoice} (need : Starved s)
    (laid : s.env.chunkAns = .arrive fresh most :: rest) (some : readBytes s fresh most ≠ [])
    (passed : Memory.wf s.params.sbCap (s.sb ++ readBytes s fresh most) = false) :
    microStep s = .refused .sbOverflow := by
  rw [microStep_chunk need (rxD_chunk laid some)]
  exact if_neg (Bool.eq_false_iff.mp passed)

/-! ## HDR_CHECK (R180 to R184, R239) -/

theorem pairsRefused_eq_false_iff (p : Params) (h : Header) :
    pairsRefused p h = false ↔ (p.pairReservedPolicy = .refuse → hasReservedPair h.presence = false) := by
  simp [pairsRefused]

theorem frameSizeWrong_iff (h : Header) :
    frameSizeWrong h = true ↔ 0 < h.frameCount ∧ h.bytesPerFrame ≠ 4 * h.channelCount := by
  rw [frameSizeWrong, Bool.and_eq_true, decide_eq_true_iff, decide_eq_true_iff]
  rfl

theorem microStep_hdrCheck (ph : s.ph = .hdrCheck) (len : 32 ≤ s.sb.length) :
    microStep s = checkHeader (decodeHeader (s.sb.take 32)) s := by
  have readable : memReadable s.sb 0 Config.hdrLen = true := by simpa [memReadable, Config.hdrLen] using len
  rw [microStep, ph]
  exact if_pos readable

theorem checkHeader_refuses_pair {h : Header} (pairs : pairsRefused s.params h = true) :
    checkHeader h s = .refused .reservedPair :=
  if_pos pairs

theorem checkHeader_out_of_range {h : Header} (pairs : pairsRefused s.params h = false)
    (range : h.channelCount ≤ maxChannel s.chsel) :
    checkHeader h s =
      .next (raisePull (.channelOutOfRange (maxChannel s.chsel) h.channelCount h) (setHdr h s)) := by
  rw [checkHeader, if_neg (by simp [pairs]), if_pos range]

theorem checkHeader_refuses_size {h : Header} (pairs : pairsRefused s.params h = false)
    (channels : maxChannel s.chsel < h.channelCount) (size : frameSizeWrong h = true) :
    checkHeader h s = .refused .frameSizeMismatch := by
  rw [checkHeader, if_neg (by simp [pairs]), if_neg (Nat.not_le.mpr channels), if_pos size]

theorem checkHeader_passes {h : Header} (pairs : pairsRefused s.params h = false)
    (channels : maxChannel s.chsel < h.channelCount) (size : frameSizeWrong h = false) :
    checkHeader h s = .next (setPh .payWait (setHdr h s)) := by
  rw [checkHeader, if_neg (by simp [pairs]), if_neg (Nat.not_le.mpr channels), if_neg (by simp [size])]

theorem checkHeader_fits {h : Header} (fits : HeaderFits s.params s.chsel h) :
    checkHeader h s = .next (setPh .payWait (setHdr h s)) := by
  refine checkHeader_passes ((pairsRefused_eq_false_iff _ h).mpr fits.pairs) fits.channels (Bool.eq_false_iff.mpr ?_)
  intro wrong
  obtain ⟨frames, ne⟩ := (frameSizeWrong_iff h).mp wrong
  exact ne (fits.frames frames)

/-! ## EXTRACT and DROP (R185, R186) -/

theorem microStep_extract (ph : s.ph = .extract)
    (readable : framesReadable s.sb s.hdr.bytesPerFrame s.chsel (emitCount s) = true) :
    microStep s = .next (setPh .drop (emit (projectFrames s.sb s.hdr.bytesPerFrame s.chsel (emitCount s)) s)) := by
  rw [microStep, ph]
  exact if_pos readable

theorem microStep_drop (ph : s.ph = .drop) (whole : packetLen s.hdr ≤ s.sb.length) :
    microStep s = .next (setPh .loop (forgetHdr (setSb (s.sb.drop (packetLen s.hdr)) s))) := by
  rw [microStep, ph]
  dsimp only
  rw [microDrop, sbDrop, if_pos whole]
  rfl

end

/-! ## The end of a PULL (R187) -/

theorem finishPull_ended (s : State) : PullEnded s (finishPull s) (.ok (orient s.flat s.out)) :=
  ⟨rfl, rfl, rfl, rfl, rfl, rfl, rfl, fun _ => rfl⟩

/-- The writes before the end may be to elements of which `PullEnded` says nothing (HDR, SB, SBVALID, CS_D). -/
theorem raisePull_ended (e : Err) {s u : State} (env : u.env = s.env) (csC : u.csC = s.csC) (cmd : u.cmd = s.cmd)
    (params : u.params = s.params) (emitted : u.emitted = s.emitted) : PullEnded s (raisePull e u) (.err e) :=
  ⟨rfl, rfl, by rw [raisePull_env, env], csC, cmd, params, emitted, fun ⟨_, h⟩ => nomatch h⟩

end Sys2Proof.Machine

open Sys2Proof Sys2Proof.Machine

/-- Settles O31. -/
theorem loopTests : Obligations.LoopTests := by
  intro s input busy ph
  rw [step_running input busy]
  exact ⟨fun reached => ⟨_, microStep_loop_ends ph reached, finishPull_ended s, rfl, rfl, rfl⟩,
    microStep_loop_goes_on ph⟩

/-- Settles O32: a header is buffered, or the one read gives bytes, none, or a failure. -/
theorem headerWaitReads : Obligations.HeaderWaitReads := by
  intro s input busy ph
  rw [step_running input busy]
  refine ⟨microStep_header_buffered ph, fun fresh most rest short laid => microStep_reads (.inl ⟨ph, short⟩) laid,
    fun fresh most rest short laid => microStep_overflows (.inl ⟨ph, short⟩) laid,
    fun a left rest short laid none => ?_, fun cause rest short laid => ?_⟩
  · obtain ⟨ans, stop, read⟩ := rxD_noBytes laid none
    exact ⟨_, microStep_short_return ph short read stop, finishPull_ended (afterRead s rest left),
      finishPull_sb _, finishPull_sbValid _, finishPull_csD _⟩
  · exact ⟨_, microStep_read_fails (.inl ⟨ph, short⟩) (rxD_fail laid), raisePull_ended _ rfl rfl rfl rfl rfl,
      raisePull_sb _ _, raisePull_sbValid _ _, rfl⟩

/-- Settles O33: the tests of HDR_CHECK in their order. -/
theorem headerCheckDecides : Obligations.HeaderCheckDecides := by
  intro s h input busy ph len hdr
  rw [step_running input busy, microStep_hdrCheck ph len, ← hdr]
  simp only [← pairsRefused_eq_false_iff]
  refine ⟨fun policy reserved => checkHeader_refuses_pair (by simp [pairsRefused, policy, reserved]),
    fun pairs range => ?_, fun pairs channels frames size => ?_, checkHeader_fits⟩
  · exact ⟨_, checkHeader_out_of_range pairs range, raisePull_ended _ rfl rfl rfl rfl rfl, raisePull_sb _ _,
      raisePull_sbValid _ _, raisePull_csD _ _⟩
  · exact checkHeader_refuses_size pairs channels ((frameSizeWrong_iff h).mpr ⟨frames, size⟩)

/-- Settles O34: the packet is buffered, or the one read gives bytes, none, or a failure. -/
theorem payloadWaitReads : Obligations.PayloadWaitReads := by
  intro s input busy ph
  rw [step_running input busy]
  refine ⟨microStep_packet_buffered ph, fun fresh most rest short laid => microStep_reads (.inr ⟨ph, short⟩) laid,
    fun fresh most rest short laid => microStep_overflows (.inr ⟨ph, short⟩) laid,
    fun a left rest short laid none => ?_, fun cause rest short laid => ?_⟩
  · obtain ⟨ans, stop, read⟩ := rxD_noBytes laid none
    exact ⟨_, microStep_incomplete ph short read stop, raisePull_ended _ rfl rfl rfl rfl rfl,
      raisePull_sbValid _ _, raisePull_csD _ _⟩
  · exact ⟨_, microStep_read_fails (.inr ⟨ph, short⟩) (rxD_fail laid), raisePull_ended _ rfl rfl rfl rfl rfl,
      raisePull_sb _ _, raisePull_sbValid _ _, rfl⟩

/-- Settles O35: the reads of EXTRACT are defined, by the invariant. -/
theorem extractProjects : Obligations.ExtractProjects := by
  intro s hs input ph
  have busy : s.busy = true := hs.phase.mpr (by rw [ph]; nofun)
  rw [step_running input busy, microStep_extract ph (hs.framesReadable ph), emit, projectFrames_length]
  rfl

/-- Settles O36. -/
theorem dropRemovesThePacket : Obligations.DropRemovesThePacket := by
  intro s input busy ph whole
  rw [step_running input busy]
  exact ⟨_, _, microStep_drop ph whole⟩

end

section
/-! PROOFS. A PULL over a cut stream follows the PULL whose bytes are all in SB: O57. -/

namespace Sys2Proof.Machine

/-! ## Runs of the machine while the host is silent (R261, R264) -/

theorem run_succ_of_step {M : Host.Core} {s t : M.State} (h : M.step s = .next t) (k : Nat) :
    M.run (k + 1) s = M.run k t := by
  rw [Host.Core.run, h]

theorem step_of_run_succ {M : Host.Core} {s t : M.State} {k : Nat} (h : M.run (k + 1) s = .next t) :
    ∃ u, M.step s = .next u ∧ M.run k u = .next t := by
  rw [Host.Core.run] at h
  split at h
  · next u hu => exact ⟨u, hu, h⟩
  · cases h
  · cases h

theorem run_add {M : Host.Core} {s t : M.State} {k : Nat} (h : M.run k s = .next t) (l : Nat) :
    M.run (k + l) s = M.run l t := by
  induction k generalizing s with
  | zero =>
    cases h
    rw [Nat.zero_add]
  | succ k ih =>
    obtain ⟨u, hu, h⟩ := step_of_run_succ h
    rw [Nat.succ_add, run_succ_of_step hu, ih h]

/-- A silent host gives a step nothing to run but the micro-step of a running PULL. -/
theorem HostSilent.step_next {s t : State} (silent : HostSilent s) (h : step s = .next t) :
    (s.busy = true ∧ microStep s = .next t) ∨ (s.busy = false ∧ t = s) := by
  have presents : presentNext s = s := by rw [presentNext, silent.2]
  rw [step, silent.1] at h
  dsimp only at h
  split at h
  · next busy => exact .inl ⟨busy, h⟩
  · next idle => exact .inr ⟨by simpa using idle, by rw [← Host.Outcome.next.inj h, presents]⟩

theorem Micro.hostSilent {s t : State} (h : Micro s t) (silent : HostSilent s) : HostSilent t := by
  cases h with
  | loopEnds | loopGoesOn | headerBuffered | wholeBuffered | outOfRange | headerFits | extracts | drops => exact silent
  | reads e _ frame | shortReturn e frame | incomplete e frame | fails e _ frame =>
    exact ⟨frame.input.trans silent.1, frame.agenda.trans silent.2⟩

theorem HostSilent.step {s t : State} (silent : HostSilent s) (h : step s = .next t) : HostSilent t := by
  obtain ⟨-, h⟩ | ⟨-, rfl⟩ := silent.step_next h
  · exact (microStep_next h).hostSilent silent
  · exact silent

theorem HostSilent.run {s t : State} {k : Nat} (silent : HostSilent s) (h : core.run k s = .next t) : HostSilent t := by
  induction k generalizing s with
  | zero => cases h; exact silent
  | succ k ih =>
    obtain ⟨u, hu, h⟩ := step_of_run_succ h
    exact ih (silent.step hu) h

/-- Once the PULL has ended the block waits unchanged. -/
theorem HostSilent.run_idle {s : State} (silent : HostSilent s) (idle : s.busy = false) (k : Nat) :
    core.run k s = .next s := by
  have waits : Machine.step s = .next s := by
    rw [Machine.step, silent.1, idle, presentNext, silent.2]
    rfl
  induction k with
  | zero => rfl
  | succ k ih => exact (run_succ_of_step (M := core) waits k).trans ih

/-- Two runs from one state that both reach the end of the PULL reach the same state. -/
theorem run_ends_uniquely {s t u : State} {k l : Nat} (ht : core.run k s = .next t) (hu : core.run l s = .next u)
    (silent : HostSilent s) (tIdle : t.busy = false) (uIdle : u.busy = false) : t = u := by
  have hk : core.run (k + l) s = .next t := by rw [run_add ht, (silent.run ht).run_idle tIdle]
  have hl : core.run (l + k) s = .next u := by rw [run_add hu, (silent.run hu).run_idle uIdle]
  rw [Nat.add_comm, hl] at hk
  exact (Host.Outcome.next.inj hk).symm

/-! ## Bytes behind the ones a read needs (R60, R185) -/

theorem le32s_append {sb : Bytes} {a : Nat} (bs : Bytes) (len : a + 4 ≤ sb.length) :
    le32s (sb ++ bs) a = le32s sb a := by
  simp only [le32s, le32u]
  rw [byteAt_append _ _ _ (by omega), byteAt_append _ _ _ (by omega), byteAt_append _ _ _ (by omega),
    byteAt_append _ _ _ (by omega)]

theorem framesReadable_iff (sb : Bytes) (stride : Nat) (chs : List Nat) (n : Nat) :
    framesReadable sb stride chs n = true ↔ ∀ k < n, ∀ c ∈ chs, sampleAddr stride k c + 4 ≤ sb.length := by
  simp only [framesReadable, memReadable, List.all_eq_true, List.mem_range, decide_eq_true_iff]
  rfl

theorem framesReadable_append {sb : Bytes} {stride n : Nat} {chs : List Nat}
    (readable : framesReadable sb stride chs n = true) (bs : Bytes) :
    framesReadable (sb ++ bs) stride chs n = true := by
  rw [framesReadable_iff] at *
  intro k hk c hc
  exact (readable k hk c hc).trans (by simp)

theorem projectFrames_append {sb : Bytes} {stride n : Nat} {chs : List Nat}
    (readable : framesReadable sb stride chs n = true) (bs : Bytes) :
    projectFrames (sb ++ bs) stride chs n = projectFrames sb stride chs n := by
  rw [framesReadable_iff] at readable
  refine List.map_congr_left fun k hk => List.map_congr_left fun c hc => ?_
  exact le32s_append bs (readable k (List.mem_range.mp hk) c hc)

/-! ## The PULL whose bytes are already in SB -/

/-- `s` with the bytes `bs` on their way already in SB, and the decisions `rest` still to come. The calls of the ports,
which no meaning reads (R42, log 10), are left out. -/
def prefetch (bs : Bytes) (rest : List ReadChoice) (s : State) : State :=
  { s with sb := s.sb ++ bs, env := { s.env with binRx := [], chunkAns := rest, calls := [] } }

theorem checkHeader_prefetch (h : Header) (bs : Bytes) (rest : List ReadChoice) (s : State) :
    checkHeader h (prefetch bs rest s) = andThen (checkHeader h s) fun t => .next (prefetch bs rest t) := by
  cases pairs : pairsRefused s.params h with
  | true =>
    rw [checkHeader_refuses_pair pairs, checkHeader_refuses_pair (s := prefetch bs rest s) pairs]
    rfl
  | false =>
    obtain channels | range := Nat.lt_or_ge (maxChannel s.chsel) h.channelCount
    · cases size : frameSizeWrong h with
      | true =>
        rw [checkHeader_refuses_size pairs channels size,
          checkHeader_refuses_size (s := prefetch bs rest s) pairs channels size]
        rfl
      | false =>
        rw [checkHeader_passes pairs channels size, checkHeader_passes (s := prefetch bs rest s) pairs channels size]
        rfl
    · rw [checkHeader_out_of_range pairs range, checkHeader_out_of_range (s := prefetch bs rest s) pairs range]
      rfl

/-- A micro-step that does not read does the same with more bytes behind those it needs. -/
theorem microStep_prefetch {s : State} (hs : Consistent s) (busy : s.busy = true) (fed : ¬ Starved s) (bs : Bytes)
    (rest : List ReadChoice) :
    microStep (prefetch bs rest s) = andThen (microStep s) fun t => .next (prefetch bs rest t) := by
  have le : s.sb.length ≤ (prefetch bs rest s).sb.length := by simp [prefetch]
  cases ph : s.ph with
  | idle => exact absurd ph (hs.phase.mp busy)
  | loop =>
    obtain wants | reached := Nat.lt_or_ge s.emitted s.req
    · rw [microStep_loop_goes_on ph wants, microStep_loop_goes_on (s := prefetch bs rest s) ph wants]
      rfl
    · rw [microStep_loop_ends ph reached, microStep_loop_ends (s := prefetch bs rest s) ph reached]
      rfl
  | hdrWait =>
    have len : 32 ≤ s.sb.length := Nat.le_of_not_lt fun short => fed (.inl ⟨ph, short⟩)
    rw [microStep_header_buffered ph len, microStep_header_buffered (s := prefetch bs rest s) ph (len.trans le)]
    rfl
  | hdrCheck =>
    have len := hs.header ph
    have front : decodeHeader ((prefetch bs rest s).sb.take 32) = decodeHeader (s.sb.take 32) :=
      decodeHeader_take_append bs len
    rw [microStep_hdrCheck ph len, microStep_hdrCheck (s := prefetch bs rest s) ph (len.trans le), front]
    exact checkHeader_prefetch _ bs rest s
  | payWait =>
    have whole : packetLen s.hdr ≤ s.sb.length := Nat.le_of_not_lt fun short => fed (.inr ⟨ph, short⟩)
    rw [microStep_packet_buffered ph whole, microStep_packet_buffered (s := prefetch bs rest s) ph (whole.trans le)]
    rfl
  | extract =>
    have readable := hs.framesReadable ph
    rw [microStep_extract ph readable,
      microStep_extract (s := prefetch bs rest s) ph (framesReadable_append readable bs)]
    have frames := projectFrames_append readable bs
    exact congrArg (fun ts => Host.Outcome.next (setPh .drop (emit ts (prefetch bs rest s)))) frames
  | drop =>
    have whole := hs.whole (by rw [ph]; rfl)
    rw [microStep_drop ph whole, microStep_drop (s := prefetch bs rest s) ph (whole.trans le)]
    have left : (s.sb ++ bs).drop (packetLen s.hdr) = s.sb.drop (packetLen s.hdr) ++ bs :=
      List.drop_append_of_le_length whole
    exact congrArg (fun sb => Host.Outcome.next (setPh .loop (forgetHdr (setSb sb (prefetch bs rest s))))) left

/-- Such a micro-step changes nothing of the ports but the results. -/
theorem Micro.env_of_fed {s t : State} (h : Micro s t) (fed : ¬ Starved s) :
    ∃ rs, t.env = { s.env with results := rs } := by
  cases h with
  | loopEnds | loopGoesOn | headerBuffered | wholeBuffered | outOfRange | headerFits | extracts | drops =>
    exact ⟨_, rfl⟩
  | reads _ _ _ _ need | fails _ _ _ _ need => exact absurd need fed
  | shortReturn _ _ _ ph short => exact absurd (.inl ⟨ph, short⟩) fed
  | incomplete _ _ _ ph short => exact absurd (.inr ⟨ph, short⟩) fed

/-! ## Reads whose decision is laid down, and free ones (log 3) -/

theorem rxD_oracleTick (n : Nat) (s : State) :
    (rxD n s).2.env.oracleTick = (nextChunk (noteCall (.rxD n) s)).2.env.oracleTick := by
  dsimp only [rxD]
  split <;> rfl

theorem rxD_oracleTick_free {s : State} (none : s.env.chunkAns = []) (n : Nat) :
    (rxD n s).2.env.oracleTick = s.env.oracleTick + 1 := by
  rw [rxD_oracleTick]
  simp only [nextChunk, noteCall, setEnv_env, none]

theorem le_rxD_oracleTick (n : Nat) (s : State) : s.env.oracleTick ≤ (rxD n s).2.env.oracleTick := by
  rw [rxD_oracleTick, nextChunk]
  split <;> simp

/-- A micro-step that reads leaves the ports as the read leaves them, but for the results. -/
theorem Starved.env_of_next {s t : State} (need : Starved s) (h : microStep s = .next t) :
    ∃ rs, t.env = { (rxD s.params.chunkMax s).2.env with results := rs } := by
  rcases read : rxD s.params.chunkMax s with ⟨ans, v⟩
  cases ans with
  | chunk bs =>
    rw [microStep_chunk need read] at h
    obtain ⟨rfl, -⟩ := sbAppend_next h
    exact ⟨_, rfl⟩
  | fail cause =>
    rw [microStep_read_fails need read] at h
    cases h
    exact ⟨_, rfl⟩
  | timeout | eof =>
    obtain ⟨ph, short⟩ | ⟨ph, short⟩ := need
    · rw [microStep_short_return ph short read (by simp)] at h
      cases h
      exact ⟨_, rfl⟩
    · rw [microStep_incomplete ph short read (by simp)] at h
      cases h
      exact ⟨_, rfl⟩

theorem microStep_oracleTick_le {s t : State} (h : microStep s = .next t) : s.env.oracleTick ≤ t.env.oracleTick := by
  by_cases need : Starved s
  · obtain ⟨rs, env⟩ := need.env_of_next h
    rw [env]
    exact le_rxD_oracleTick _ s
  · obtain ⟨rs, env⟩ := (microStep_next h).env_of_fed need
    rw [env]

theorem HostSilent.run_oracleTick_le {s t : State} {k : Nat} (silent : HostSilent s) (h : core.run k s = .next t) :
    s.env.oracleTick ≤ t.env.oracleTick := by
  induction k generalizing s with
  | zero => cases h; exact le_rfl
  | succ k ih =>
    obtain ⟨u, hu, h⟩ := step_of_run_succ h
    have le := ih (silent.step hu) h
    obtain ⟨-, hm⟩ | ⟨-, rfl⟩ := silent.step_next hu
    · exact (microStep_oracleTick_le hm).trans le
    · exact le

/-! ## The PULL over the whole stream (R191) -/

/-- `s` with its whole stream in SB: no answer is left. -/
def gathered (s : State) : State := prefetch (s.env.binRx ++ chunkBytes s.env.chunkAns) [] s

theorem gathered_sb (s : State) : (gathered s).sb = pendingStream s := (List.append_assoc _ _ _).symm

/-- The decision to return bytes gives at least one: CHUNK_MAX is at least 1 (R9). -/
theorem readBytes_ne_nil {s : State} {fresh : Bytes} {most : Nat} (params : s.params.wf) (arrives : fresh ≠ [])
    (returned : most ≠ 0) : readBytes s fresh most ≠ [] := by
  have max := params.1
  have avail : s.env.binRx ++ fresh ≠ [] := by simp [arrives]
  rw [readBytes, ne_eq, List.take_eq_nil_iff]
  rintro (zero | empty)
  · omega
  · exact avail empty

/-- A read moves bytes of the stream into SB and changes nothing of the stream (R191, R249). -/
theorem gathered_after_read {s : State} {fresh : Bytes} {most : Nat} {rest : List ReadChoice}
    (laid : s.env.chunkAns = .arrive fresh most :: rest) :
    gathered { afterRead s rest (leftBytes s fresh most) with sb := s.sb ++ readBytes s fresh most } = gathered s := by
  have bytes : s.sb ++ readBytes s fresh most ++ (leftBytes s fresh most ++ chunkBytes rest)
      = s.sb ++ (s.env.binRx ++ chunkBytes s.env.chunkAns) := by
    rw [laid, chunkBytes, ← List.append_assoc s.env.binRx, ← List.take_append_drop (min s.params.chunkMax most)
      (s.env.binRx ++ fresh)]
    simp only [List.append_assoc, readBytes, leftBytes]
  exact congrArg (fun sb => { s with sb := sb, env := { s.env with binRx := [], chunkAns := [], calls := [] } }) bytes

/-- One micro-step of a PULL whose reads are chunks, none of them free: a read changes nothing of the PULL over the whole
stream, and any other micro-step is one of it. -/
theorem gathered_microStep {s t : State} (hs : Consistent s) (busy : s.busy = true) (silent : HostSilent s)
    (chunks : ∀ c ∈ s.env.chunkAns, isChunk c) (h : microStep s = .next t)
    (laid : t.env.oracleTick ≤ s.env.oracleTick) :
    (∀ c ∈ t.env.chunkAns, isChunk c) ∧ (gathered t = gathered s ∨ step (gathered s) = .next (gathered t)) := by
  by_cases need : Starved s
  · cases ans : s.env.chunkAns with
    | nil =>
      obtain ⟨rs, env⟩ := need.env_of_next h
      have free := rxD_oracleTick_free ans s.params.chunkMax
      rw [env] at laid
      dsimp only at laid
      omega
    | cons c rest =>
      rw [ans] at chunks
      obtain ⟨fresh, most, rfl, arrives, returned⟩ := chunks c List.mem_cons_self
      have read := rxD_chunk ans (readBytes_ne_nil hs.params arrives returned)
      rw [microStep_chunk need read] at h
      obtain ⟨rfl, -⟩ := sbAppend_next h
      exact ⟨fun c hc => chunks c (List.mem_cons_of_mem _ hc), .inl (gathered_after_read ans)⟩
  · obtain ⟨rs, env⟩ := (microStep_next h).env_of_fed need
    have same : gathered t = prefetch (s.env.binRx ++ chunkBytes s.env.chunkAns) [] t := by rw [gathered, env]
    refine ⟨by rwa [env], .inr ?_⟩
    rw [same, step_running (by exact silent.1) (by exact busy), gathered, microStep_prefetch hs busy need, h]
    rfl

theorem gathered_run {s t : State} {k : Nat} (hs : Consistent s) (silent : HostSilent s)
    (chunks : ∀ c ∈ s.env.chunkAns, isChunk c) (h : core.run k s = .next t)
    (laid : t.env.oracleTick ≤ s.env.oracleTick) : ∃ j, core.run j (gathered s) = .next (gathered t) := by
  induction k generalizing s with
  | zero =>
    cases h
    exact ⟨0, rfl⟩
  | succ k ih =>
    obtain ⟨u, hu, run⟩ := step_of_run_succ h
    obtain ⟨busy, hm⟩ | ⟨-, rfl⟩ := silent.step_next hu
    · have uSilent := silent.step hu
      have uConsistent := stepKeepsConsistent s u hs hu
      have before := microStep_oracleTick_le hm
      have after := uSilent.run_oracleTick_le run
      obtain ⟨uChunks, same | stepped⟩ := gathered_microStep hs busy silent chunks hm (after.trans laid)
      all_goals obtain ⟨j, hj⟩ := ih uConsistent uSilent uChunks run (laid.trans before)
      · exact ⟨j, same ▸ hj⟩
      · exact ⟨j + 1, (run_succ_of_step (M := core) stepped j).trans hj⟩
    · exact ih hs silent chunks run laid

theorem layChunks_consistent {s : State} (hs : Consistent s) (cs : List ReadChoice) : Consistent (layChunks cs s) :=
  hs.of_sameStream (.setEnv _ s) rfl

end Sys2Proof.Machine

open Sys2Proof Sys2Proof.Machine

/-- Settles O57: both runs follow the PULL over the whole stream, which is the same for both. -/
theorem chunkIndependence : Obligations.ChunkIndependence := by
  intro s t u cs ds k l hs busy silent csChunks dsChunks bytes ht hu tIdle uIdle tLaid uLaid
  have same : gathered (layChunks cs s) = gathered (layChunks ds s) := by
    simp only [gathered, layChunks, bytes]
    rfl
  obtain ⟨i, hi⟩ := gathered_run (layChunks_consistent hs cs) silent csChunks ht tLaid.le
  obtain ⟨j, hj⟩ := gathered_run (layChunks_consistent hs ds) silent dsChunks hu uLaid.le
  rw [← same] at hj
  have ends : gathered t = gathered u := run_ends_uniquely hi hj silent tIdle uIdle
  refine ⟨congrArg (fun v => v.env.results) ends, ?_, congrArg (fun v => v.csD) ends,
    congrArg (fun v => v.sbValid) ends⟩
  rw [← gathered_sb, ends, gathered_sb]

end

section
/-! PROOFS. The big-step reference of PULL (R194): O58, O59 and O60. -/

namespace Sys2Proof.Machine

/-! ## A PULL that is supplied with its bytes (R194) -/

/-- `s` reads the chunks `cs` before it comes to the decisions `rest`: nothing but them is on its way. -/
structure Supplied (cs : List Bytes) (rest : List ReadChoice) (s : State) : Prop where
  consistent : Consistent s
  silent : HostSilent s
  unbounded : s.params.sbCap = none
  nothingLeft : s.env.binRx = []
  answers : s.env.chunkAns = cs.map wholeRead ++ rest
  chunks : ∀ c ∈ cs, c ≠ [] ∧ c.length ≤ s.params.chunkMax

/-- `s` is on the way of `u`, which has the bytes that `s` reads before `rest` already in SB. -/
def Follows (rest : List ReadChoice) (s u : State) : Prop :=
  ∃ cs, Supplied cs rest s ∧ u = prefetch cs.flatten rest s

/-- Some number of steps leads from `s` to `t`. -/
def Reaches (s t : State) : Prop := ∃ k, core.run k s = .next t

theorem Reaches.refl (s : State) : Reaches s s := ⟨0, rfl⟩

theorem Reaches.trans {s t u : State} (h : Reaches s t) (g : Reaches t u) : Reaches s u := by
  obtain ⟨k, hk⟩ := h
  obtain ⟨l, hl⟩ := g
  exact ⟨k + l, by rw [run_add hk, hl]⟩

theorem Reaches.of_microStep {s t : State} (silent : HostSilent s) (busy : s.busy = true) (h : microStep s = .next t) :
    Reaches s t :=
  ⟨1, run_succ_of_step (M := core) ((step_running silent.1 busy).trans h) 0⟩

/-- A read that returns the whole of the next chunk. -/
theorem Supplied.read {s : State} {c : Bytes} {cs : List Bytes} {rest : List ReadChoice}
    (h : Supplied (c :: cs) rest s) (busy : s.busy = true) (need : Starved s) :
    ∃ t, Reaches s t ∧ Supplied cs rest t ∧ t.busy = true
      ∧ prefetch cs.flatten rest t = prefetch (c :: cs).flatten rest s := by
  obtain ⟨consistent, silent, unbounded, nothingLeft, answers, chunks⟩ := h
  obtain ⟨ne, le⟩ := chunks c List.mem_cons_self
  have all : min s.params.chunkMax c.length = c.length := Nat.min_eq_right le
  have read : readBytes s c c.length = c := by rw [readBytes, nothingLeft, all, List.nil_append, List.take_length]
  have left : leftBytes s c c.length = [] := by rw [leftBytes, nothingLeft, all, List.nil_append, List.drop_length]
  have fits : Memory.wf s.params.sbCap (s.sb ++ c) = true := by rw [unbounded]; rfl
  have h := microStep_reads need answers (by rwa [read]) (by rwa [read])
  rw [read, left] at h
  have stepped := (step_running silent.1 busy).trans h
  refine ⟨_, .of_microStep silent busy h, ⟨stepKeepsConsistent s _ consistent stepped, silent, unbounded, rfl, rfl,
    fun d hd => chunks d (List.mem_cons_of_mem c hd)⟩, busy, ?_⟩
  simp [prefetch, afterRead]

theorem Supplied.of_fed {s t : State} {cs : List Bytes} {rest : List ReadChoice} (h : Supplied cs rest s)
    (busy : s.busy = true) (fed : ¬ Starved s) (hm : microStep s = .next t) : Supplied cs rest t := by
  obtain ⟨consistent, silent, unbounded, nothingLeft, answers, chunks⟩ := h
  have stepped := (step_running silent.1 busy).trans hm
  obtain ⟨rs, env⟩ := (microStep_next hm).env_of_fed fed
  have params := (microStep_next hm).params
  exact {
    consistent := stepKeepsConsistent s t consistent stepped
    silent := silent.step stepped
    unbounded := by rw [params, unbounded]
    nothingLeft := by rw [env, nothingLeft]
    answers := by rw [env, answers]
    chunks := by rwa [params] }

theorem andThen_next {o : Out} {k : State → Out} {t : State} (h : andThen o k = .next t) :
    ∃ u, o = .next u ∧ k u = .next t := by
  cases o with
  | next u => exact ⟨u, rfl, h⟩
  | fault r => cases h
  | refused r => cases h

theorem Supplied.follows_fed {s v : State} {cs : List Bytes} {rest : List ReadChoice} (h : Supplied cs rest s)
    (busy : s.busy = true) (fed : ¬ Starved s) (hm : microStep (prefetch cs.flatten rest s) = .next v) :
    ∃ t, Reaches s t ∧ Follows rest t v := by
  rw [microStep_prefetch h.consistent busy fed] at hm
  obtain ⟨t, ht, hv⟩ := andThen_next hm
  exact ⟨t, .of_microStep h.silent busy ht, cs, h.of_fed busy fed ht, (Host.Outcome.next.inj hv).symm⟩

theorem prefetch_nil_starved {s : State} {rest : List ReadChoice} (need : Starved s) : Starved (prefetch [] rest s) := by
  simpa [Starved, prefetch] using need

/-- A micro-step without a read is followed: the chunks it needs are read before it. -/
theorem Follows.micro {s u v : State} {rest : List ReadChoice} (h : Follows rest s u) (busy : u.busy = true)
    (fed : ¬ Starved u) (hm : microStep u = .next v) : ∃ t, Reaches s t ∧ Follows rest t v := by
  obtain ⟨cs, supplied, rfl⟩ := h
  induction cs generalizing s with
  | nil => exact supplied.follows_fed busy (fun need => fed (prefetch_nil_starved need)) hm
  | cons c cs ih =>
    by_cases need : Starved s
    · obtain ⟨t, hst, tSupplied, tBusy, same⟩ := supplied.read busy need
      rw [← same] at fed hm
      obtain ⟨w, htw, follows⟩ := ih tSupplied tBusy fed hm
      exact ⟨w, hst.trans htw, follows⟩
    · exact supplied.follows_fed busy need hm

/-- A micro-step without a read. -/
def FedStep (u v : State) : Prop := u.busy = true ∧ ¬ Starved u ∧ microStep u = .next v

theorem Follows.run {s u v : State} {rest : List ReadChoice} (h : Follows rest s u)
    (steps : Relation.ReflTransGen FedStep u v) : ∃ t, Reaches s t ∧ Follows rest t v := by
  induction steps with
  | refl => exact ⟨s, .refl s, h⟩
  | tail _ last ih =>
    obtain ⟨t, hst, follows⟩ := ih
    obtain ⟨busy, fed, hm⟩ := last
    obtain ⟨w, htw, follows⟩ := follows.micro busy fed hm
    exact ⟨w, hst.trans htw, follows⟩

/-- `s` but for the calls of the ports. -/
def withCalls (calls : List PortCall) (s : State) : State := { s with env := { s.env with calls := calls } }

/-- Where `u` must read, the one that follows it has read all its chunks and must read too. -/
theorem Follows.drained {s u : State} {rest : List ReadChoice} (h : Follows rest s u) (busy : u.busy = true)
    (need : Starved u) : ∃ calls, Reaches s (withCalls calls u) := by
  obtain ⟨cs, supplied, rfl⟩ := h
  induction cs generalizing s with
  | nil =>
    have same : withCalls s.env.calls (prefetch [] rest s) = s := by
      have answers : s.env.chunkAns = rest := supplied.answers
      have read : { s with env := { s.env with chunkAns := rest, binRx := [] } } = s := by
        rw [← answers, ← supplied.nothingLeft]
      rw [withCalls, prefetch, List.append_nil]
      exact read
    exact ⟨s.env.calls, by rw [List.flatten_nil, same]; exact .refl s⟩
  | cons c cs ih =>
    have le : s.sb.length ≤ (prefetch (c :: cs).flatten rest s).sb.length := by simp [prefetch]
    have first : Starved s := need.imp (And.imp_right le.trans_lt) (And.imp_right le.trans_lt)
    obtain ⟨t, hst, tSupplied, tBusy, same⟩ := supplied.read busy first
    rw [← same] at need ⊢
    obtain ⟨calls, reaches⟩ := ih tSupplied tBusy need
    exact ⟨calls, hst.trans reaches⟩

/-! ## The bytes of a stream (R191) -/

theorem chunkBytes_wholeReads (cs : List Bytes) (rest : List ReadChoice) :
    chunkBytes (cs.map wholeRead ++ rest) = cs.flatten ++ chunkBytes rest := by
  induction cs with
  | nil => rfl
  | cons c cs ih => simp [wholeRead, chunkBytes, ih]

theorem Supplied.pendingStream {s : State} {cs : List Bytes} {rest : List ReadChoice} (h : Supplied cs rest s) :
    pendingStream s = s.sb ++ cs.flatten ++ chunkBytes rest := by
  rw [Machine.pendingStream, h.nothingLeft, h.answers, chunkBytes_wholeReads, List.append_nil, List.append_assoc]

/-- A header reads the same with bytes after it (R135). -/
theorem decodeHeader_append {bs : Bytes} (len : 32 ≤ bs.length) (more : Bytes) :
    decodeHeader (bs ++ more) = decodeHeader bs := by
  have front (cs : Bytes) : decodeHeader (bs.take 32 ++ cs) = decodeHeader (bs.take 32) :=
    congrArg deriveHeader (decodeRaw_append (List.length_take_of_le len) cs)
  calc decodeHeader (bs ++ more) = decodeHeader (bs.take 32 ++ (bs.drop 32 ++ more)) := by
        rw [← List.append_assoc, List.take_append_drop]
    _ = decodeHeader (bs.take 32 ++ bs.drop 32) := by rw [front, front]
    _ = decodeHeader bs := by rw [List.take_append_drop]

theorem decodeHeader_take {bs : Bytes} (len : 32 ≤ bs.length) : decodeHeader (bs.take 32) = decodeHeader bs := by
  conv_rhs => rw [← List.take_append_drop 32 bs, decodeHeader_append (List.length_take_of_le len).ge]

theorem projectFrames_take (sb : Bytes) (stride : Nat) (chs : List Nat) (n m : Nat) :
    (projectFrames sb stride chs n).take m = projectFrames sb stride chs (min n m) := by
  rw [projectFrames, projectFrames, ← List.map_take, List.take_range, Nat.min_comm]

/-! ## One packet after the other (R178 to R186) -/

/-- `u` back in LOOP, the tuples `ts` emitted and `sb` left in SB; HDR is any value. -/
def passed (ts : List (List Int)) (sb : Bytes) (h : Header) (k : Nat) (u : State) : State :=
  { u with ph := .loop, sb := sb, out := u.out ++ ts, emitted := u.emitted + ts.length, hdr := h, freeTick := k }

theorem passed_passed (ts ts' : List (List Int)) (sb sb' : Bytes) (h h' : Header) (k k' : Nat) (u : State) :
    passed ts' sb' h' k' (passed ts sb h k u) = passed (ts ++ ts') sb' h' k' u := by
  simp [passed, Nat.add_assoc]

theorem passed_nil {u : State} (ph : u.ph = .loop) : passed [] u.sb u.hdr u.freeTick u = u := by
  simp [passed, ← ph]

section
variable {u : State}

theorem not_starved (header : u.ph ≠ .hdrWait) (payload : u.ph ≠ .payWait) : ¬ Starved u := by
  simp [Starved, header, payload]

theorem fedStep_wants (busy : u.busy = true) (ph : u.ph = .loop) (wants : u.emitted < u.req) :
    FedStep u (setPh .hdrWait u) :=
  ⟨busy, not_starved (by simp [ph]) (by simp [ph]), microStep_loop_goes_on ph wants⟩

/-- From LOOP to PAY_WAIT over a header that fits. -/
theorem header_passes (busy : u.busy = true) (ph : u.ph = .loop) (wants : u.emitted < u.req) (len : 32 ≤ u.sb.length)
    (fits : HeaderFits u.params u.chsel (decodeHeader u.sb)) :
    Relation.ReflTransGen FedStep u (setPh .payWait (setHdr (decodeHeader u.sb) u)) := by
  have buffered : FedStep (setPh .hdrWait u) (setPh .hdrCheck u) :=
    ⟨busy, by simp [Starved, len], microStep_header_buffered rfl len⟩
  have checked : FedStep (setPh .hdrCheck u) (setPh .payWait (setHdr (decodeHeader u.sb) u)) := by
    refine ⟨busy, not_starved nofun nofun, ?_⟩
    rw [microStep_hdrCheck (s := setPh .hdrCheck u) rfl len, setPh_sb, decodeHeader_take len]
    exact checkHeader_fits (s := setPh .hdrCheck u) fits
  exact ((Relation.ReflTransGen.single (fedStep_wants busy ph wants)).tail buffered).tail checked

theorem fedStep_packet_buffered (busy : u.busy = true) (ph : u.ph = .payWait)
    (whole : packetLen u.hdr ≤ u.sb.length) : FedStep u (setPh .extract u) :=
  ⟨busy, by simp [Starved, ph, whole], microStep_packet_buffered ph whole⟩

/-- What stands behind the packet has no part in its frames (R60, R185). -/
theorem fedStep_extracts {p more : Bytes} (busy : u.busy = true) (ph : u.ph = .extract) (front : u.sb = p ++ more)
    (hdr : u.hdr = decodeHeader p) (packet : WholePacket u.params u.chsel p) :
    FedStep u (setPh .drop (emit ((packetFrames u.chsel p).take (u.req - u.emitted)) u)) := by
  obtain ⟨-, whole, fits⟩ := packet
  have count : emitCount u = min (decodeHeader p).frameCount (u.req - u.emitted) := by rw [emitCount, hdr]
  have readable := framesReadable_of_whole fits rfl whole.le (Nat.min_le_left _ (u.req - u.emitted))
  refine ⟨busy, not_starved (by simp [ph]) (by simp [ph]), ?_⟩
  rw [microStep_extract ph (by rw [front, hdr, count]; exact framesReadable_append readable more), front, hdr, count,
    projectFrames_append readable, packetFrames, projectFrames_take]

theorem fedStep_drops {p more : Bytes} (busy : u.busy = true) (ph : u.ph = .drop) (front : u.sb = p ++ more)
    (whole : packetLen u.hdr = p.length) : FedStep u (setPh .loop (forgetHdr (setSb more u))) := by
  have le : packetLen u.hdr ≤ u.sb.length := by simp [front, whole]
  have left : u.sb.drop (packetLen u.hdr) = more := by rw [front, whole, List.drop_left]
  exact ⟨busy, not_starved (by simp [ph]) (by simp [ph]), by rw [microStep_drop ph le, left]⟩

/-- A whole packet at the front of SB passes, and its first frames are emitted (R185, R186). -/
theorem packet_passes {p more : Bytes} (busy : u.busy = true) (ph : u.ph = .loop) (wants : u.emitted < u.req)
    (front : u.sb = p ++ more) (packet : WholePacket u.params u.chsel p) :
    ∃ h k, Relation.ReflTransGen FedStep u
      (passed ((packetFrames u.chsel p).take (u.req - u.emitted)) more h k u) := by
  obtain ⟨len, whole, fits⟩ := packet
  have hdr : decodeHeader u.sb = decodeHeader p := by rw [front, decodeHeader_append len]
  have le : p.length ≤ u.sb.length := by simp [front]
  have checked := header_passes busy ph wants (len.trans le) (hdr ▸ fits)
  rw [hdr] at checked
  have buffered := fedStep_packet_buffered (u := setPh .payWait (setHdr (decodeHeader p) u)) busy rfl (whole.trans_le le)
  have extracted := fedStep_extracts (u := setPh .extract (setHdr (decodeHeader p) u)) busy rfl front rfl
    ⟨len, whole, fits⟩
  have dropped := fedStep_drops (more := more)
    (u := setPh .drop (emit ((packetFrames u.chsel p).take (u.req - u.emitted)) (setHdr (decodeHeader p) u)))
    busy rfl front whole
  exact ⟨Config.freeHdr u.freeTick, u.freeTick + 1, ((checked.tail buffered).tail extracted).tail dropped⟩

/-- Packets at the front of SB pass one after the other while a sample is wanted. -/
theorem packets_pass {packets : List Bytes} {rest : Bytes} (busy : u.busy = true) (ph : u.ph = .loop)
    (front : u.sb = packets.flatten ++ rest) (whole : ∀ p ∈ packets, WholePacket u.params u.chsel p)
    (wants : ∀ j < packets.length, u.emitted + ((packets.take j).flatMap (packetFrames u.chsel)).length < u.req) :
    ∃ h k, Relation.ReflTransGen FedStep u
      (passed ((packets.flatMap (packetFrames u.chsel)).take (u.req - u.emitted)) rest h k u) := by
  induction packets generalizing u with
  | nil =>
    obtain rfl : u.sb = rest := front
    exact ⟨u.hdr, u.freeTick, by rw [List.flatMap_nil, List.take_nil, passed_nil ph]⟩
  | cons p packets ih =>
    rw [List.flatten_cons, List.append_assoc] at front
    obtain ⟨h, k, first⟩ := packet_passes busy ph (wants 0 (by simp)) front (whole p List.mem_cons_self)
    obtain ⟨h', k', others⟩ := ih (u := passed ((packetFrames u.chsel p).take (u.req - u.emitted)) _ h k u) busy
      rfl rfl (fun q hq => whole q (List.mem_cons_of_mem p hq)) fun j hj => by
        have := wants (j + 1) (by simpa using hj)
        simp [passed] at this ⊢
        omega
    refine ⟨h', k', first.trans ?_⟩
    rw [passed_passed] at others
    have left : (u.req - u.emitted) - (packetFrames u.chsel p).length =
        u.req - (u.emitted + ((packetFrames u.chsel p).take (u.req - u.emitted)).length) := by
      rw [List.length_take]
      omega
    rw [List.flatMap_cons, List.take_append, left]
    exact others

end

/-! ## The PULL over a cut stream (R194) -/

section
variable {s : State} {cs packets : List Bytes} {tail : Bytes} {rest : List ReadChoice}

theorem StreamOf.follows (stream : StreamOf s cs packets tail) (starts : PullStarts s)
    (answers : s.env.chunkAns = cs.map wholeRead ++ rest) : Follows rest s (prefetch cs.flatten rest s) :=
  ⟨cs, ⟨starts.consistent, starts.silent, stream.unbounded, stream.nothingLeft, answers, stream.chunks⟩, rfl⟩

theorem PullStarts.running (starts : PullStarts s) : Running s := starts.consistent.running starts.busy

theorem PullStarts.out (starts : PullStarts s) : s.out = [] :=
  List.length_eq_zero_iff.mp (starts.running.count.1.symm.trans starts.emitted)

theorem PullStarts.wants (starts : PullStarts s) {n : Nat} (short : n < s.req) : s.emitted + n < s.req := by
  rwa [starts.emitted, Nat.zero_add]

/-- The packets before the count is reached pass. -/
theorem StreamOf.packets_pass (stream : StreamOf s cs packets tail) (starts : PullStarts s) {m : Nat}
    (wants : ∀ j < m, ((packets.take j).flatMap (packetFrames s.chsel)).length < s.req) :
    ∃ h k, Relation.ReflTransGen FedStep (prefetch cs.flatten rest s)
      (passed (((packets.take m).flatMap (packetFrames s.chsel)).take s.req) ((packets.drop m).flatten ++ tail) h k
        (prefetch cs.flatten rest s)) := by
  have front : (prefetch cs.flatten rest s).sb = (packets.take m).flatten ++ ((packets.drop m).flatten ++ tail) := by
    rw [← List.append_assoc, ← List.flatten_append, List.take_append_drop]
    exact stream.bytes
  have zero : s.req = s.req - s.emitted := by rw [starts.emitted, Nat.sub_zero]
  rw [zero]
  refine Machine.packets_pass starts.busy starts.ph front
    (fun p hp => stream.packets p (List.mem_of_mem_take hp)) fun j hj => ?_
  have lt : j < m := by simp at hj; omega
  rw [List.take_take, Nat.min_eq_left lt.le]
  exact starts.wants (wants j lt)

/-- All packets pass when their frames are too few. -/
theorem StreamOf.all_packets_pass (stream : StreamOf s cs packets tail) (starts : PullStarts s)
    (short : (packets.flatMap (packetFrames s.chsel)).length < s.req) :
    ∃ h k, Relation.ReflTransGen FedStep (prefetch cs.flatten rest s)
      (passed (packets.flatMap (packetFrames s.chsel)) tail h k (prefetch cs.flatten rest s)) := by
  have wants : ∀ j < packets.length, ((packets.take j).flatMap (packetFrames s.chsel)).length < s.req := by
    intro j _
    have parts := congrArg (fun ps => (ps.flatMap (packetFrames s.chsel)).length) (List.take_append_drop j packets)
    simp only [List.flatMap_append, List.length_append] at parts
    omega
  have steps := stream.packets_pass (rest := rest) starts wants
  rwa [List.take_length, List.drop_length, List.take_of_length_le short.le] at steps

theorem chunkBytes_stop {stop : ReadChoice} (h : stop = .timeout ∨ stop = .eof) (more : List ReadChoice) :
    chunkBytes (stop :: more) = chunkBytes more := by
  rcases h with rfl | rfl <;> rfl

/-- Where the PULL with the bytes in SB must read, the one that follows it has read all its chunks, and `stop` answers its
next read. -/
theorem Follows.run_to_stop {u v : State} {stop : ReadChoice} {more : List ReadChoice}
    (h : Follows (stop :: more) s u) (steps : Relation.ReflTransGen FedStep u v) (busy : v.busy = true) (need : Starved v)
    (laid : v.env.chunkAns = stop :: more) (stops : stop = .timeout ∨ stop = .eof) :
    ∃ calls ans, Reaches s (withCalls calls v) ∧ (ans = .timeout ∨ ans = .eof)
      ∧ rxD v.params.chunkMax (withCalls calls v) = (ans, afterRead (withCalls calls v) more v.env.binRx) := by
  obtain ⟨t, reaches, follows⟩ := h.run steps
  obtain ⟨calls, drained⟩ := follows.drained busy need
  obtain ⟨ans, stopped, read⟩ := rxD_noBytes (s := withCalls calls v) laid (.inl ⟨stops, rfl⟩)
  exact ⟨calls, ans, reaches.trans drained, stopped, read⟩

end

end Sys2Proof.Machine

open Sys2Proof Sys2Proof.Machine

/-- Settles O58: up to the least number of packets that hold REQ frames every packet passes, then LOOP ends the PULL. -/
theorem pullReachesItsCount : Obligations.PullReachesItsCount := by
  intro s cs packets tail stop more starts answers stops stream enough
  have reached : ∃ m, s.req ≤ ((packets.take m).flatMap (packetFrames s.chsel)).length :=
    ⟨packets.length, by rwa [List.take_length]⟩
  have least : ∀ j < Nat.find reached, ((packets.take j).flatMap (packetFrames s.chsel)).length < s.req :=
    fun j hj => Nat.lt_of_not_le (Nat.find_min reached hj)
  have counted := Nat.find_spec reached
  generalize Nat.find reached = m at least counted
  have frames : ((packets.take m).flatMap (packetFrames s.chsel)).take s.req
      = (packets.flatMap (packetFrames s.chsel)).take s.req := by
    conv_rhs => rw [← List.take_append_drop m packets, List.flatMap_append, List.take_append_of_le_length counted]
  obtain ⟨h, k, steps⟩ := stream.packets_pass (rest := stop :: more) starts least
  rw [frames] at steps
  have count : s.req ≤ s.emitted + ((packets.flatMap (packetFrames s.chsel)).take s.req).length := by
    rw [starts.emitted, Nat.zero_add, List.length_take_of_le enough]
  have ends := steps.tail ⟨starts.busy, not_starved nofun nofun, microStep_loop_ends rfl count⟩
  obtain ⟨t, ⟨n, run⟩, left, supplied, same⟩ := (stream.follows starts answers).run ends
  have live := starts.running.live
  have results : t.env.results = s.env.results
      ++ [.ok (orient s.flat (s.out ++ (packets.flatMap (packetFrames s.chsel)).take s.req))] :=
    (congrArg (fun v => v.env.results) same).symm
  refine ⟨n, t, m, run, (congrArg State.busy same).symm, ?_, counted, least, ?_,
    (congrArg State.sbValid same).symm.trans live.2, (congrArg State.csD same).symm.trans live.1⟩
  · rw [results, starts.out, List.nil_append]
  · have sb : t.sb ++ left.flatten = (packets.drop m).flatten ++ tail := (congrArg State.sb same).symm
    rw [supplied.pendingStream, sb, chunkBytes_stop stops]

/-- Settles O59: all packets pass, and in HDR_WAIT the read after the last chunk ends the PULL. -/
theorem pullReturnsShort : Obligations.PullReturnsShort := by
  intro s cs packets tail stop more starts answers stops stream short tailShort
  obtain ⟨h, k, steps⟩ := stream.all_packets_pass (rest := stop :: more) starts short
  have waits := steps.tail (fedStep_wants starts.busy rfl (starts.wants short))
  obtain ⟨calls, ans, reaches, stopped, read⟩ :=
    (stream.follows starts answers).run_to_stop waits starts.busy (.inl ⟨rfl, tailShort⟩) rfl stops
  obtain ⟨n, run⟩ := reaches.trans
    (.of_microStep starts.silent starts.busy (microStep_short_return rfl tailShort read stopped))
  refine ⟨n, _, run, rfl, ?_, rfl, starts.running.live.2, starts.running.live.1, rfl⟩
  show s.env.results ++ [.ok (orient s.flat (s.out ++ packets.flatMap (packetFrames s.chsel)))] = _
  rw [starts.out, List.nil_append]

/-- Settles O60: all packets and the next header pass, and in PAY_WAIT the read after the last chunk ends the PULL. -/
theorem pullEndsIncomplete : Obligations.PullEndsIncomplete := by
  intro s cs packets tail stop more starts answers stops stream short len fits tailShort
  obtain ⟨h, k, steps⟩ := stream.all_packets_pass (rest := stop :: more) starts short
  have waits := steps.trans (header_passes starts.busy rfl (starts.wants short) len fits)
  obtain ⟨calls, ans, reaches, stopped, read⟩ :=
    (stream.follows starts answers).run_to_stop waits starts.busy (.inr ⟨rfl, tailShort⟩) rfl stops
  obtain ⟨n, run⟩ := reaches.trans
    (.of_microStep starts.silent starts.busy (microStep_incomplete rfl tailShort read stopped))
  exact ⟨n, _, run, rfl, rfl, rfl, starts.running.live.1, rfl⟩

end

section
/-! PROOFS. The Stream Reassembler's requests (O28, O29, O30, O41), and over every micro-step: which ports are called
(O38), how a PULL ends (O40) and that it makes progress (O43). -/

namespace Sys2Proof.Machine

/-! ## CONNECT_D and DISCONNECT_D (R170, R189) -/

theorem exec_connectD {s : State} (idle : s.busy = false) (down : s.csD = .down) (host port timeout : Bytes) :
    exec (.connectD host port timeout) s =
      .next (conclude (connectDRun host port timeout (setBusy true s)).1
        (connectDRun host port timeout (setBusy true s)).2) := by
  rw [exec, execConnectD, accept_eq idle, setBusy_csD, if_pos down]

theorem exec_disconnectD {s : State} (idle : s.busy = false) (held : s.csD ≠ .down) :
    exec .disconnectD s = .next (finish .none (setPh .idle (setSbValid false (setSb [] (setCsD .down
      (callDisconnect .binary (setBusy true s))))))) := by
  rw [exec, execDisconnectD, accept_eq idle, setBusy_csD, if_neg held]

section
variable {s : State} {cs : List DoneAnswer} {cause : Bytes}

theorem connectDRun_fails (failed : s.env.connectAns = .fail cause :: cs) (host port timeout : Bytes) :
    connectDRun host port timeout s = (.err (.connection cause none), setEnv { s.env with
      connectAns := cs, calls := s.env.calls ++ [.connect .binary host port timeout] } s) := by
  rw [connectDRun, callConnect_laid failed]

theorem connectDRun_succeeds (connected : s.env.connectAns = .done :: cs) (host port timeout : Bytes) :
    connectDRun host port timeout s = (.ok .none, forgetHdr (setPh .idle (setSbValid true (setSb [] (setCsD .up
      (setEnv { s.env with
        connectAns := cs, calls := s.env.calls ++ [.connect .binary host port timeout] } s)))))) := by
  rw [connectDRun, callConnect_laid connected]

end

/-! ## The ports an item calls (R35, R42) -/

/-- The calls of `s` and after them some that `i` may make. -/
def CallsOf (i : Instr) (s u : State) : Prop :=
  ∃ new, u.env.calls = s.env.calls ++ new ∧ ∀ c ∈ new, mayCall i c = true

theorem CallsOf.none {i : Instr} {s u : State} (h : u.env.calls = s.env.calls) : CallsOf i s u :=
  ⟨[], by rw [h, List.append_nil], nofun⟩

theorem CallsOf.one {i : Instr} {s u : State} {c : PortCall} (h : u.env.calls = s.env.calls ++ [c])
    (may : mayCall i c = true) : CallsOf i s u :=
  ⟨[c], h, fun _ hd => List.mem_singleton.mp hd ▸ may⟩

theorem CallsOf.trans {i : Instr} {s u v : State} (h : CallsOf i s u) (g : CallsOf i u v) : CallsOf i s v := by
  obtain ⟨new, hcalls, hmay⟩ := h
  obtain ⟨new', gcalls, gmay⟩ := g
  refine ⟨new ++ new', by rw [gcalls, hcalls, List.append_assoc], fun c hc => ?_⟩
  exact (List.mem_append.mp hc).elim (hmay c) (gmay c)

theorem callConnect_calls (w : Channel) (a b c : Bytes) (s : State) :
    (callConnect w a b c s).2.env.calls = s.env.calls ++ [.connect w a b c] := by
  obtain ⟨e, he, -, calls⟩ := callConnect_state w a b c s
  rw [he]
  exact calls

theorem txC_calls (bs : Bytes) (s : State) : (txC bs s).2.env.calls = s.env.calls ++ [.tx bs] := by
  obtain ⟨e, he, -, calls⟩ := txC_state bs s
  rw [he]
  exact calls

theorem rxAvailC_calls (s : State) : (rxAvailC s).2.env.calls = s.env.calls ++ [.rxAvail] := by
  obtain ⟨e, he, -, calls⟩ := rxAvailC_state s
  rw [he]
  exact calls

theorem callDisconnect_calls (w : Channel) (s : State) :
    (callDisconnect w s).env.calls = s.env.calls ++ [.disconnect w] := by
  obtain ⟨e, he, -, calls⟩ := callDisconnect_state w s
  rw [he]
  exact calls

theorem connectCRun_calls (a b c : Bytes) (s : State) : CallsOf (.connectC a b c) s (connectCRun a b c s).2 := by
  have connects : CallsOf (.connectC a b c) s (callConnect .text a b c s).2 :=
    .one (callConnect_calls .text a b c s) (by simp [mayCall])
  have drains (u : State) : CallsOf (.connectC a b c) u (rxAvailC u).2 := .one (rxAvailC_calls u) rfl
  dsimp only [connectCRun]
  split
  · exact connects
  · have drained := connects.trans (drains (setCsC .up (callConnect .text a b c s).2))
    split <;> exact drained

theorem sendRun_calls (cmd : Bytes) (s : State) : CallsOf (.send cmd) s (sendRun cmd s).2 := by
  have writes : CallsOf (.send cmd) s (txC (frameCommand cmd) (setCmd cmd s)).2 :=
    .one (txC_calls (frameCommand cmd) (setCmd cmd s)) (by simp [mayCall])
  have reads (u : State) : CallsOf (.send cmd) u (rxAvailC u).2 := .one (rxAvailC_calls u) rfl
  dsimp only [sendRun, settle, setCmd_cmd]
  split
  · exact writes
  · have read := writes.trans (reads (txC (frameCommand cmd) (setCmd cmd s)).2)
    split <;> exact read

theorem connectDRun_calls (a b c : Bytes) (s : State) : CallsOf (.connectD a b c) s (connectDRun a b c s).2 := by
  have connects : CallsOf (.connectD a b c) s (callConnect .binary a b c s).2 :=
    .one (callConnect_calls .binary a b c s) (by simp [mayCall])
  dsimp only [connectDRun]
  split <;> exact connects

theorem pullAccept_calls {n : Nat} {chs : List Nat} {s t : State} (h : pullAccept n chs s = .next t) :
    t.env.calls = s.env.calls := by
  obtain ⟨-, -, -, -, -, rfl⟩ := pullAccept_next h
  rfl

theorem textTake_calls (bs : Bytes) (s : State) : (textTake bs s).env.calls = s.env.calls := by
  unfold textTake
  split <;> rfl

theorem conclude_calls (r : Result) (s : State) : (conclude r s).env.calls = s.env.calls := by
  rw [conclude_env]

/-- The end of an operation calls no port. -/
theorem CallsOf.conclude {i : Instr} {s u : State} (h : CallsOf i s u) (r : Result) : CallsOf i s (conclude r u) :=
  h.trans (.none (conclude_calls r u))

theorem Ran.send_calls {cmd : Bytes} {s t : State} (h : Ran s (.send cmd) t) : CallsOf (.send cmd) s t := by
  cases h with
  | send =>
    have run : CallsOf (.send cmd) s (forgetCmd (sendRun cmd (setBusy true s)).2) := sendRun_calls cmd (setBusy true s)
    exact run.conclude _

theorem Ran.calls {i : Instr} {s t : State} (h : Ran s i t) : CallsOf i s t := by
  cases h with
  | enc | dech | dechShort | respOk | respUnknown | respWrong | respMalformed | pkt => exact .none rfl
  | decr => exact .none (conclude_calls _ _)
  | connectC a b c => exact (connectCRun_calls a b c (setBusy true s)).conclude _
  | send cmd idle up => exact (Ran.send cmd idle up).send_calls
  | disconnectC => exact .one (callDisconnect_calls .text (setBusy true s)) rfl
  | connectD a b c => exact (connectDRun_calls a b c (setBusy true s)).conclude _
  | disconnectD => exact .one (callDisconnect_calls .binary (setBusy true s)) rfl
  | pull _ _ _ accepted | acquirePull _ _ _ accepted => exact .none (pullAccept_calls accepted)
  | acquireFails _ _ _ _ _ sent => exact sent.send_calls
  | acquireGoesOn cmd _ _ u _ _ sent _ accepted =>
    obtain ⟨new, calls, may⟩ := sent.send_calls
    exact ⟨new, (pullAccept_calls accepted).trans calls, may⟩
  | cmdFrame text => exact .none (textTake_calls _ s)

/-! ## What a micro-step does (R187, R195, R196) -/

/-- A micro-step calls no port, or reads once because it must. -/
theorem Micro.calls {s t : State} (h : Micro s t) :
    t.env.calls = s.env.calls ∨ (t.env.calls = s.env.calls ++ [.rxD s.params.chunkMax] ∧ Starved s) := by
  cases h with
  | loopEnds | loopGoesOn | headerBuffered | wholeBuffered | outOfRange | headerFits | extracts | drops => exact .inl rfl
  | reads _ _ _ calls need | fails _ _ _ calls need => exact .inr ⟨calls, need⟩
  | shortReturn _ _ calls ph short => exact .inr ⟨calls, .inl ⟨ph, short⟩⟩
  | incomplete _ _ calls ph short => exact .inr ⟨calls, .inr ⟨ph, short⟩⟩

end Sys2Proof.Machine

open Sys2Proof Sys2Proof.Machine

/-- Settles O28: the failed connect and the success. -/
theorem connectDAnswers : Obligations.ConnectDAnswers := by
  intro s host port timeout idle down
  rw [exec_connectD idle down]
  refine ⟨fun cause cs failed => ?_, fun cs connected => ?_⟩
  · rw [connectDRun_fails (s := setBusy true s) failed, idle]
    rfl
  · rw [connectDRun_succeeds (s := setBusy true s) connected, idle]
    exact ⟨_, _, rfl⟩

/-- Settles O29. -/
theorem disconnectDAnswers : Obligations.DisconnectDAnswers := by
  intro s idle held
  rw [exec_disconnectD idle held, idle]
  rfl

/-- Settles O30. -/
theorem pullIsAccepted : Obligations.PullIsAccepted := fun _ _ _ idle up valid ne nodup =>
  pullAccept_eq idle up valid ne nodup

/-- Settles O41: the PULL is accepted, and LOOP ends it. -/
theorem pullOfNothing : Obligations.PullOfNothing := by
  intro s chs idle up valid ne nodup input
  have ends := (step_running (s := setPh .loop (latchPull 0 chs (setBusy true s))) input rfl).trans
    (microStep_loop_ends rfl (Nat.le_refl 0))
  refine ⟨_, _, pullAccept_eq idle up valid ne nodup, ends, finishPull_busy _, ?_, ?_, finishPull_sb _⟩
  · simp [orient, flatOf, latchPull]
  · simp [latchPull]

/-- Settles O38: a micro-step by `Micro`, an item by `Ran`. -/
theorem readsOnlyOnNeed : Obligations.ReadsOnlyOnNeed :=
  ⟨fun _ _ h => (microStep_next h).calls, fun _ _ _ h => (exec_next h).calls⟩

/-- Settles O40: the ends of a PULL are those of `Micro`; the invariant gives the bounds. -/
theorem pullEndsInFiveWays : Obligations.PullEndsInFiveWays := by
  intro s t hs busy h ended
  obtain ⟨-, -, -, ⟨up, valid⟩, -, ⟨count, le⟩, -⟩ := hs.running busy
  cases microStep_next h with
  | loopGoesOn | headerBuffered | wholeBuffered | headerFits | extracts | drops | reads =>
    exact absurd ended (by simp [busy])
  | loopEnds ph reached =>
    have all : s.emitted = s.req := le_antisymm le reached
    exact ⟨rfl, .inl ⟨ph, all, rfl, count.symm.trans all, finishPull_sb _, valid, up⟩⟩
  | shortReturn e frame _ ph short =>
    have wants := hs.wants (by rw [ph]; rfl)
    exact ⟨rfl, .inr (.inl ⟨ph, wants, congrArg (· ++ _) frame.results, count ▸ wants, finishPull_sb _,
      short, valid, up⟩)⟩
  | outOfRange hdr ph _ _ _ range =>
    exact ⟨rfl, .inr (.inr (.inl ⟨ph, ⟨_, _, hdr, rfl, range⟩, raisePull_sb _ _, valid, up⟩))⟩
  | incomplete e frame _ ph short =>
    exact ⟨rfl, .inr (.inr (.inr (.inl ⟨ph, ⟨_, _, _, congrArg (· ++ _) frame.results, short⟩, rfl, up⟩)))⟩
  | fails e cause frame _ need =>
    exact ⟨rfl, .inr (.inr (.inr (.inr
      ⟨need.imp And.left And.left, ⟨cause, congrArg (· ++ _) frame.results⟩, raisePull_sb _ _,
        raisePull_sbValid _ _, rfl⟩)))⟩

/-- Settles O43: only a read stays in its phase, and a packet is at least its header. -/
theorem everyPassMakesProgress : Obligations.EveryPassMakesProgress := by
  intro s t hs busy h running
  cases microStep_next h with
  | loopEnds | shortReturn | incomplete | fails | outOfRange => cases running
  | loopGoesOn ph | headerBuffered ph | wholeBuffered ph | headerFits _ ph | extracts ph => simp [ph]
  | reads _ bs _ _ need ne =>
    have pos : 0 < bs.length := List.length_pos_iff.mpr ne
    exact ⟨fun ph => by simp [ph] at need, fun _ => by simp [pos]⟩
  | drops ph whole =>
    refine ⟨fun _ => ?_, by simp [ph]⟩
    have header : 32 ≤ packetLen s.hdr := Nat.le_add_right 32 _
    show (s.sb.drop (packetLen s.hdr)).length + 32 ≤ s.sb.length
    rw [List.length_drop]
    omega

end

section
/-! PROOFS. ACQUIRE as its SEND and its PULL: O54 and O55. -/

namespace Sys2Proof.Machine

/-- The state in which the SEND of ACQUIRE ends is the one SEND itself ends in, and its result decides how ACQUIRE goes on
(R210, R212). -/
theorem exec_acquire_after_send {s t : State} {cmd : Bytes} {r : Result} (sent : exec (.send cmd) s = .next t)
    (result : t.env.results = s.env.results ++ [r]) (n : Nat) (chs : List Nat) :
    exec (.acquire (some cmd) n chs) s = acquireAfterSend r n chs t := by
  cases exec_next sent with
  | send _ idle up =>
    have presented : (sendRun cmd (setBusy true s)).1 = r := by
      rw [conclude_results, forgetCmd_env, sendRun_results (s := setBusy true s) up] at result
      simpa using result
    rw [exec, execAcquire, accept_eq idle, setBusy_csC, if_pos up, presented]

/-- SEND with the text channel UP ends in its result, whatever the transport answers, and leaves the elements of the stream
(R161). -/
theorem exec_send_completes {s : State} (idle : s.busy = false) (up : s.csC = .up) (cmd : Bytes) :
    ∃ t r, exec (.send cmd) s = .next t ∧ t.env.results = s.env.results ++ [r] ∧ t.busy = false
      ∧ t.sb = s.sb ∧ t.sbValid = s.sbValid ∧ t.csD = s.csD := by
  obtain ⟨stream, ports, -⟩ := send_textRun up cmd
  refine ⟨_, (sendRun cmd (setBusy true s)).1, exec_send idle up cmd, ?_, conclude_busy _ _, ?_, ?_, ?_⟩
  · rw [conclude_results, ports.results]
  · rw [conclude_sb, stream.sb]
  · rw [conclude_sbValid, stream.sbValid]
  · rw [conclude_csD, stream.csD]

end Sys2Proof.Machine

open Sys2Proof Sys2Proof.Machine

/-- Settles O54: the SEND inside ACQUIRE is SEND, and what follows is decided by its result. -/
theorem acquireAnswers : Obligations.AcquireAnswers := fun _ n chs _ =>
  ⟨rfl, fun _ _ _ sent result => exec_acquire_after_send sent result n chs,
    fun _ _ _ sent result => exec_acquire_after_send sent result n chs⟩

/-- Settles O55: the SEND ends and leaves the stream; after its success, as without a command, the PULL's preconditions
hold. -/
theorem acquireCompletes : Obligations.AcquireCompletes := by
  intro s sampling n chs idle upC upD valid ne nodup
  cases sampling with
  | none => exact ⟨_, pullAccept_eq idle upD valid ne nodup, .inr ⟨rfl, rfl, rfl, rfl, rfl, rfl⟩, rfl, valid, upD⟩
  | some cmd =>
    obtain ⟨t, r, sent, result, ended, sb, sbValid, csD⟩ := exec_send_completes idle upC cmd
    have valid' := sbValid.trans valid
    have upD' := csD.trans upD
    rw [exec_acquire_after_send sent result]
    cases r with
    | err e => exact ⟨t, rfl, .inl ⟨ended, e, result⟩, sb, valid', upD'⟩
    | ok v =>
      exact ⟨_, pullAccept_eq ended upD' valid' ne nodup, .inr ⟨rfl, rfl, rfl, rfl, rfl, rfl⟩, sb, valid', upD'⟩

end

section
/-! PROOFS. Errors and flags: reads within their limits (O37), the error kinds (O44, O45), the sticky conditions (O47), the
independence of the channels (O48) and the refusals by state (O25). -/

namespace Sys2Proof.Machine

/-! ## Reads of the binary channel (R66, R249) -/

theorem nextChunk_laid {s : State} {a : ReadChoice} {rest : List ReadChoice} (laid : s.env.chunkAns = a :: rest) :
    nextChunk s = (a, setEnv { s.env with chunkAns := rest } s) := by
  rw [nextChunk, laid]

/-- A read that returns bytes has met the decision that bytes arrive, the one laid down where there is one, and cuts what is
there, followed by what arrives, in two. -/
theorem rxD_chunk_inv {n : Nat} {s u : State} {bs : Bytes} (h : rxD n s = (.chunk bs, u)) :
    ∃ fresh most, bs ≠ [] ∧ bs = (s.env.binRx ++ fresh).take (min n most)
      ∧ u.env.binRx = (s.env.binRx ++ fresh).drop (min n most)
      ∧ ∀ a rest, s.env.chunkAns = a :: rest → a = .arrive fresh most ∧ u.env.chunkAns = rest := by
  obtain ⟨e, state, -, -, there⟩ := nextChunk_state (noteCall (.rxD n) s)
  unfold rxD at h
  rcases decided : nextChunk (noteCall (.rxD n) s) with ⟨a, v⟩
  rw [decided] at state h
  obtain rfl : v = setEnv e (noteCall (.rxD n) s) := state
  have there : e.binRx = s.env.binRx := there
  cases a with
  | timeout | eof | fail => simp at h
  | arrive fresh most =>
    obtain ⟨answer, rfl⟩ := Prod.mk.inj h
    split at answer
    · cases answer
    · next nonempty =>
      cases answer
      simp only [setEnv_env, there] at nonempty ⊢
      refine ⟨fresh, most, by simpa using nonempty, rfl, rfl, fun a rest laid => ?_⟩
      rw [nextChunk_laid (s := noteCall (.rxD n) s) laid] at decided
      obtain ⟨rfl, left⟩ := Prod.mk.inj decided
      exact ⟨rfl, congrArg (·.env.chunkAns) left.symm⟩

/-- Every chunk of 1 to `n` of the bytes there can occur: the decision that the read returns `k` of them. -/
theorem rxD_returns {n k : Nat} {s : State} {fresh : Bytes} {rest : List ReadChoice} (pos : 1 ≤ k) (le : k ≤ n)
    (there : k ≤ (s.env.binRx ++ fresh).length) (laid : s.env.chunkAns = .arrive fresh k :: rest) :
    ∃ u, rxD n s = (.chunk ((s.env.binRx ++ fresh).take k), u) ∧ u.env.binRx = (s.env.binRx ++ fresh).drop k := by
  have nonempty : ((s.env.binRx ++ fresh).take k).isEmpty = false := by
    rw [List.isEmpty_eq_false_iff, ← List.length_pos_iff, List.length_take]
    omega
  rw [rxD, nextChunk_laid (s := noteCall (.rxD n) s) laid]
  dsimp only
  rw [Nat.min_eq_right le]
  exact ⟨_, congrArg (·, _) (if_neg (Bool.eq_false_iff.mp nonempty)), rfl⟩

/-! ## Reads of the text channel (R158, R249) -/

theorem takeMax_append_dropMax (limit : Option Nat) (bs : Bytes) : takeMax limit bs ++ dropMax limit bs = bs := by
  cases limit with
  | none => exact List.append_nil bs
  | some m => exact List.take_append_drop m bs

/-- A read leaves bytes only when it returns as many as its limit allows. -/
theorem limit_of_dropMax_ne_nil {limit : Option Nat} {bs : Bytes} (left : dropMax limit bs ≠ []) :
    limit = some (takeMax limit bs).length := by
  cases limit with
  | none => exact absurd rfl left
  | some m =>
    have past : m < bs.length := by simpa [dropMax] using left
    rw [takeMax, List.length_take_of_le past.le]

theorem nextText_laid {s : State} {a : TextAnswer} {rest : List TextAnswer} (laid : s.env.textAns = a :: rest) :
    nextText s = (a, setEnv { s.env with textAns := rest } s) := by
  rw [nextText, laid]

/-- A read that returns bytes cuts what is there, followed by what arrives by the decision laid down where there is one, at
CMD_READ_MAX. -/
theorem rxAvailC_bytes_inv {s u : State} {bs : Bytes} (h : rxAvailC s = (.bytes bs, u)) :
    ∃ fresh, bs = takeMax s.params.cmdReadMax (s.env.textRx ++ fresh)
      ∧ u.env.textRx = dropMax s.params.cmdReadMax (s.env.textRx ++ fresh)
      ∧ ∀ a rest, s.env.textAns = a :: rest → a = .bytes fresh ∧ u.env.textAns = rest := by
  obtain ⟨e, state, -, -, there⟩ := nextText_state (noteCall .rxAvail s)
  unfold rxAvailC at h
  rcases decided : nextText (noteCall .rxAvail s) with ⟨a, v⟩
  rw [decided] at state h
  obtain rfl : v = setEnv e (noteCall .rxAvail s) := state
  have there : e.textRx = s.env.textRx := there
  cases a with
  | fail => simp at h
  | bytes fresh =>
    obtain ⟨answer, rfl⟩ := Prod.mk.inj h
    cases answer
    simp only [setEnv_env, there]
    refine ⟨fresh, rfl, rfl, fun a rest laid => ?_⟩
    rw [nextText_laid (s := noteCall .rxAvail s) laid] at decided
    obtain ⟨rfl, left⟩ := Prod.mk.inj decided
    exact ⟨rfl, congrArg (·.env.textAns) left.symm⟩

/-! ## Error kinds (R220, R229) -/

/-- The error kind of a code (R220). -/
def ErrorKind.ofCode : Nat → Option ErrorKind
  | 1 => some .connectionError
  | 2 => some .malformedResponse
  | 3 => some .unknownCommand
  | 4 => some .wrongParameter
  | 5 => some .headerTooShort
  | 6 => some .channelOutOfRange
  | 7 => some .incompletePacket
  | _ => none

theorem ErrorKind.code_bounds (k : ErrorKind) : 1 ≤ k.code ∧ k.code ≤ 7 := by
  cases k <;> decide

theorem ErrorKind.ofCode_code (k : ErrorKind) : ofCode k.code = some k := by
  cases k <;> rfl

theorem ErrorKind.code_injective : Function.Injective ErrorKind.code := fun k l h =>
  Option.some.inj ((ofCode_code k).symm.trans ((congrArg ofCode h).trans (ofCode_code l)))

/-- A reply ends DECR in the kind of its class. -/
theorem replyResult_err {reply : Reply} {sent raw : Bytes} {e : Err} (h : replyResult reply sent raw = .err e) :
    e.kind = .malformedResponse ∨ e.kind = .unknownCommand ∨ e.kind = .wrongParameter := by
  cases reply with
  | ok => cases h
  | unknown => cases h; exact .inr (.inl rfl)
  | wrong => cases h; exact .inr (.inr rfl)
  | malformed => cases h; exact .inl rfl

theorem connectCRun_err {a b c : Bytes} {s : State} {e : Err} (h : (connectCRun a b c s).1 = .err e) :
    e.kind = .connectionError := by
  dsimp only [connectCRun] at h
  split at h
  · cases h; rfl
  · split at h <;> cases h
    rfl

theorem connectDRun_err {a b c : Bytes} {s : State} {e : Err} (h : (connectDRun a b c s).1 = .err e) :
    e.kind = .connectionError := by
  obtain ⟨_, -, ⟨cause, hrun⟩ | hrun⟩ := connectDRun_state a b c s <;> rw [hrun] at h <;> cases h
  rfl

theorem sendRun_err {cmd : Bytes} {s : State} {e : Err} (h : (sendRun cmd s).1 = .err e) :
    e.kind = .connectionError ∨ e.kind = .malformedResponse ∨ e.kind = .unknownCommand ∨ e.kind = .wrongParameter := by
  dsimp only [sendRun] at h
  split at h
  · cases h; exact .inl rfl
  · split at h
    · cases h; exact .inl rfl
    · exact .inr (replyResult_err h)

/-- The error an operation is seen to present is the result it ended with. -/
theorem conclude_presents {r : Result} {s u : State} {e : Err} (same : u.env.results = s.env.results)
    (h : (conclude r u).env.results = s.env.results ++ [.err e]) : r = .err e := by
  simpa [same] using h

/-- What has presented no result has presented no error. -/
theorem not_presented {s t : State} {e : Err} (same : t.env.results = s.env.results) :
    t.env.results ≠ s.env.results ++ [.err e] := by
  simp [same]

theorem Ran.send_presents {cmd : Bytes} {s t : State} (h : Ran s (.send cmd) t) :
    t.env.results = s.env.results ++ [(sendRun cmd (setBusy true s)).1] := by
  cases h with
  | send _ _ up => rw [conclude_results, forgetCmd_env, sendRun_results (s := setBusy true s) up, setBusy_env]

theorem Ran.send_err {cmd : Bytes} {s t : State} {e : Err} (h : Ran s (.send cmd) t)
    (raised : t.env.results = s.env.results ++ [.err e]) :
    e.kind = .connectionError ∨ e.kind = .malformedResponse ∨ e.kind = .unknownCommand ∨ e.kind = .wrongParameter := by
  rw [h.send_presents] at raised
  exact sendRun_err (s := setBusy true s) (by simpa using raised)

theorem Micro.err_kind {s t : State} {e : Err} (h : Micro s t) (raised : t.env.results = s.env.results ++ [.err e]) :
    e.kind = .connectionError ∨ e.kind = .channelOutOfRange ∨ e.kind = .incompletePacket := by
  cases h with
  | loopGoesOn | headerBuffered | wholeBuffered | headerFits | extracts | drops => exact absurd raised (not_presented rfl)
  | reads e _ frame => exact absurd raised (not_presented frame.results)
  | loopEnds => simp at raised
  | shortReturn e frame => simp [frame.results] at raised
  | outOfRange =>
    obtain rfl := by simpa using raised
    exact .inr (.inl rfl)
  | incomplete e frame =>
    obtain rfl := by simpa [frame.results] using raised
    exact .inr (.inr rfl)
  | fails e _ frame =>
    obtain rfl := by simpa [frame.results] using raised
    exact .inl rfl

/-! ## The channels (R234, R235) -/

/-- The binary channel's part of the state: CS_D, SBVALID and SB. -/
structure SameBinary (s t : State) : Prop where
  csD : t.csD = s.csD
  sbValid : t.sbValid = s.sbValid
  sb : t.sb = s.sb

/-- An operation that ends has left of the binary channel what its run has left. -/
theorem sameBinary_conclude {s u : State} (h : SameStream s u) (r : Result) : SameBinary s (conclude r u) :=
  ⟨(conclude_csD r u).trans h.csD, (conclude_sbValid r u).trans h.sbValid, (conclude_sb r u).trans h.sb⟩

theorem pullAccept_channels {n : Nat} {chs : List Nat} {s t : State} (h : pullAccept n chs s = .next t) :
    t.csC = s.csC ∧ SameBinary s t := by
  obtain ⟨-, -, -, -, -, rfl⟩ := pullAccept_next h
  exact ⟨rfl, rfl, rfl, rfl⟩

/-- What an item does to the two channels: it changes neither, or one of them, which then was not DEAD or is disconnected. -/
inductive ChannelChange (s : State) : Instr → State → Prop where
  | none (i : Instr) (t : State) (csC : t.csC = s.csC) (binary : SameBinary s t) : ChannelChange s i t
  | text (i : Instr) (t : State) (alive : s.csC ≠ .dead) (binary : SameBinary s t) : ChannelChange s i t
  | textClosed (t : State) (down : t.csC = .down) (binary : SameBinary s t) : ChannelChange s .disconnectC t
  | binaryOpened (host port timeout : Bytes) (t : State) (csC : t.csC = s.csC) (down : s.csD = .down) :
      ChannelChange s (.connectD host port timeout) t
  | binaryClosed (t : State) (csC : t.csC = s.csC) (down : t.csD = .down) (invalid : t.sbValid = false) :
      ChannelChange s .disconnectD t

theorem Ran.send_sameBinary {cmd : Bytes} {s t : State} (h : Ran s (.send cmd) t) :
    s.csC ≠ .dead ∧ SameBinary s t := by
  cases h with
  | send _ _ up => exact ⟨by simp [up], sameBinary_conclude (send_textRun up cmd).stream _⟩

theorem Ran.channelChange {i : Instr} {s t : State} (h : Ran s i t) : ChannelChange s i t := by
  cases h with
  | enc | dech | dechShort | respOk | respUnknown | respWrong | respMalformed | pkt => exact .none _ _ rfl ⟨rfl, rfl, rfl⟩
  | decr =>
    have taken : SameStream s (setBusy true s) := by constructor <;> rfl
    exact .none _ _ (conclude_csC _ _) (sameBinary_conclude taken _)
  | cmdFrame text =>
    obtain ⟨e, taken, -⟩ := textTake_state (frameCommand text) s
    rw [taken]
    exact .none _ _ rfl ⟨rfl, rfl, rfl⟩
  | pull _ _ _ accepted | acquirePull _ _ _ accepted =>
    obtain ⟨csC, binary⟩ := pullAccept_channels accepted
    exact .none _ _ csC binary
  | connectC host port timeout _ down =>
    have run := (connectC_textRun down host port timeout).stream
    exact .text _ _ (by simp [down]) (sameBinary_conclude run _)
  | send cmd idle up =>
    obtain ⟨alive, binary⟩ := (Ran.send cmd idle up).send_sameBinary
    exact .text _ _ alive binary
  | acquireFails _ _ _ _ _ sent =>
    obtain ⟨alive, binary⟩ := sent.send_sameBinary
    exact .text _ _ alive binary
  | acquireGoesOn _ _ _ u _ _ sent _ accepted =>
    obtain ⟨alive, ⟨csD, sbValid, sb⟩⟩ := sent.send_sameBinary
    obtain ⟨-, ⟨csD', sbValid', sb'⟩⟩ := pullAccept_channels accepted
    exact .text _ _ alive ⟨csD'.trans csD, sbValid'.trans sbValid, sb'.trans sb⟩
  | disconnectC => exact .textClosed _ rfl (sameBinary_conclude (disconnectC_textRun s).stream (.ok .none))
  | connectD host port timeout _ down =>
    refine .binaryOpened host port timeout _ ?_ down
    obtain ⟨e, -, ⟨cause, hrun⟩ | hrun⟩ := connectDRun_state host port timeout (setBusy true s) <;> rw [hrun] <;> rfl
  | disconnectD =>
    obtain ⟨e, released, -⟩ := callDisconnect_state .binary (setBusy true s)
    rw [released]
    exact .binaryClosed _ rfl rfl rfl

theorem Micro.csC {s t : State} (h : Micro s t) : t.csC = s.csC := by
  cases h <;> rfl

/-- A micro-step can only mark the binary channel DEAD. -/
theorem Micro.csD {s t : State} (h : Micro s t) : t.csD = s.csD ∨ t.csD = .dead := by
  cases h with
  | fails => exact .inr rfl
  | loopEnds | loopGoesOn | headerBuffered | wholeBuffered | reads | shortReturn | incomplete | outOfRange | headerFits
  | extracts | drops => exact .inl rfl

/-- A micro-step can only make SB invalid. -/
theorem Micro.sbValid {s t : State} (h : Micro s t) : t.sbValid = s.sbValid ∨ t.sbValid = false := by
  cases h with
  | incomplete => exact .inr rfl
  | loopEnds | loopGoesOn | headerBuffered | wholeBuffered | reads | shortReturn | fails | outOfRange | headerFits
  | extracts | drops => exact .inl rfl

/-! ## The preconditions of PULL (R174, R24, R109), in the order of log 19 -/

section
variable {s : State} (n : Nat) {chs : List Nat}

theorem pullAccept_not_up (idle : s.busy = false) (not_up : s.csD ≠ .up) :
    pullAccept n chs s = .refused (.channelNotUp .binary) := by
  rw [pullAccept, accept_eq idle, setBusy_csD, if_pos not_up]

theorem pullAccept_invalid (idle : s.busy = false) (up : s.csD = .up) (invalid : s.sbValid = false) :
    pullAccept n chs s = .refused .sbInvalid := by
  rw [pullAccept, accept_eq idle, setBusy_csD, if_neg (not_not.mpr up), setBusy_sbValid, if_pos invalid]

/-- With a live channel and a valid SB the channel list decides. -/
theorem pullAccept_channels_wf (idle : s.busy = false) (up : s.csD = .up) (valid : s.sbValid = true) :
    pullAccept n chs s = if chs.isEmpty then .refused .emptyChannels else if ¬ chs.Nodup then .refused .duplicateChannels
      else .next (setPh .loop (latchPull n chs (setBusy true s))) := by
  rw [pullAccept, accept_eq idle, setBusy_csD, if_neg (not_not.mpr up), setBusy_sbValid, if_neg (by simp [valid])]

end

end Sys2Proof.Machine

open Sys2Proof Sys2Proof.Machine

/-- Settles O37: a read cuts what is there, followed by what arrives, at its limit. -/
theorem readsAreBoundedAndOrdered : Obligations.ReadsAreBoundedAndOrdered := by
  refine ⟨fun s u n bs h => ?_, fun _ _ _ _ _ => rxD_returns, fun s u bs h => ?_⟩
  · obtain ⟨fresh, most, ne, rfl, left, laid⟩ := rxD_chunk_inv h
    have le := List.length_take_le (min n most) (s.env.binRx ++ fresh)
    exact ⟨List.length_pos_iff.mpr ne, le.trans (Nat.min_le_left n most), fresh, most,
      by rw [left, List.take_append_drop], le.trans (Nat.min_le_right n most), laid⟩
  · obtain ⟨fresh, rfl, left, laid⟩ := rxAvailC_bytes_inv h
    refine ⟨fun m limit => ?_, fun past => limit_of_dropMax_ne_nil (left ▸ past), fresh, ?_, laid⟩
    · rw [limit]
      exact List.length_take_le m _
    · rw [left, takeMax_append_dropMax]

/-- Settles O45: an item's error is the result of its run, by `Ran`; a micro-step's by `Micro`. -/
theorem errorKindsPerOperation : Obligations.ErrorKindsPerOperation := by
  refine ⟨fun s t i e h raised => ?_, fun s t e h raised => (microStep_next h).err_kind raised⟩
  cases exec_next h with
  | enc | dech => exact nomatch conclude_presents (r := .ok _) (u := setBusy true s) rfl raised
  | decr => exact replyResult_err (conclude_presents (u := setBusy true s) rfl raised)
  | dechShort =>
    cases conclude_presents (r := .err _) (u := setBusy true s) rfl raised
    rfl
  | connectC _ _ _ _ down =>
    exact connectCRun_err (conclude_presents (connectCRun_results (s := setBusy true s) down) raised)
  | connectD => exact connectDRun_err (conclude_presents (connectDRun_results _ _ _ (setBusy true s)) raised)
  | send _ idle up => exact (Ran.send _ idle up).send_err raised
  | acquireFails _ _ _ _ _ sent => exact sent.send_err raised
  | acquireGoesOn _ _ _ u _ _ sent result accepted =>
    rw [(pullAccept_presents_none accepted).2, sent.send_presents, result] at raised
    simp at raised
  | disconnectC =>
    exact nomatch conclude_presents (r := .ok .none) (callDisconnect_results .text (setBusy true s)) raised
  | disconnectD =>
    exact nomatch conclude_presents (r := .ok .none) (callDisconnect_results .binary (setBusy true s)) raised
  | pull _ _ _ accepted | acquirePull _ _ _ accepted =>
    exact absurd raised (not_presented (pullAccept_presents_none accepted).2)
  | cmdFrame text =>
    obtain ⟨_, taken, frame⟩ := textTake_state (frameCommand text) s
    exact not_presented (taken ▸ frame.results) raised
  | respOk | respUnknown | respWrong | respMalformed | pkt => exact not_presented rfl raised

/-- Settles O47: an item by `ChannelChange`, a micro-step by `Micro`. -/
theorem stickyConditions : Obligations.StickyConditions := by
  refine ⟨fun s t i h => ?_, fun s t h => ?_⟩
  · cases (exec_next h).channelChange with
    | none _ _ csC binary =>
      exact ⟨fun dead => .inl (csC.trans dead), fun dead => .inl (binary.csD.trans dead),
        fun invalid valid => by simp [binary.sbValid, invalid] at valid⟩
    | text _ _ alive binary =>
      exact ⟨fun dead => absurd dead alive, fun dead => .inl (binary.csD.trans dead),
        fun invalid valid => by simp [binary.sbValid, invalid] at valid⟩
    | textClosed _ down binary =>
      exact ⟨fun _ => .inr ⟨rfl, down⟩, fun dead => .inl (binary.csD.trans dead),
        fun invalid valid => by simp [binary.sbValid, invalid] at valid⟩
    | binaryOpened host port timeout _ csC down =>
      exact ⟨fun dead => .inl (csC.trans dead), fun dead => by simp [down] at dead,
        fun _ _ => ⟨host, port, timeout, rfl⟩⟩
    | binaryClosed _ csC down invalid =>
      exact ⟨fun dead => .inl (csC.trans dead), fun _ => .inr ⟨rfl, down⟩, fun _ valid => by simp [invalid] at valid⟩
  · have hm := microStep_next h
    exact ⟨hm.csC, fun dead => hm.csD.elim (·.trans dead) id, fun invalid => hm.sbValid.elim (·.trans invalid) id⟩

/-- Settles O48: only an item changes CS_C, and `ChannelChange` says that it leaves the binary channel then. -/
theorem channelsAreIndependent : Obligations.ChannelsAreIndependent := by
  intro s t h
  obtain ⟨i, hi⟩ | ⟨-, hm⟩ | ⟨-, rfl⟩ := step_next h
  · cases hi.channelChange with
    | none _ _ csC | binaryOpened _ _ _ _ csC | binaryClosed _ csC => exact .inl csC
    | text _ _ _ binary | textClosed _ _ binary => exact .inr ⟨binary.csD, binary.sbValid, binary.sb⟩
  · exact .inl hm.csC
  · obtain ⟨e, he, -⟩ := presentNext_state s
    exact .inl (by rw [he, setEnv_csC])

/-- Settles O25: each request's guard, behind its acceptance. -/
theorem wrongStateIsRefused : Obligations.WrongStateIsRefused := by
  intro s idle
  refine ⟨fun _ _ _ held => ?_, fun _ _ _ held => ?_, fun down => ?_, fun down => ?_, fun _ not_up => ?_,
    fun _ _ _ not_up => ?_, fun n _ not_up => pullAccept_not_up n idle not_up,
    fun n _ up invalid => pullAccept_invalid n idle up invalid, fun n up valid => ?_, fun n chs up valid ne dup => ?_⟩
  · rw [exec, execConnectC, accept_eq idle, setBusy_csC, if_neg held]
  · rw [exec, execConnectD, accept_eq idle, setBusy_csD, if_neg held]
  · rw [exec, execDisconnectC, accept_eq idle, setBusy_csC, if_pos down]
  · rw [exec, execDisconnectD, accept_eq idle, setBusy_csD, if_pos down]
  · rw [exec, execSend, accept_eq idle, setBusy_csC, if_neg not_up]
  · rw [exec, execAcquire, accept_eq idle, setBusy_csC, if_neg not_up]
  · exact (pullAccept_channels_wf n idle up valid).trans (if_pos rfl)
  · exact (pullAccept_channels_wf n idle up valid).trans ((if_neg (by simpa using ne)).trans (if_pos dup))

/-- Settles O44: a kind is found again from its code. -/
theorem errorCodes : Obligations.ErrorCodes :=
  ⟨rfl, rfl, rfl, rfl, rfl, rfl, rfl, fun k =>
    ⟨k.code_bounds.1, k.code_bounds.2, fun _ same => ErrorKind.code_injective same⟩⟩

end

section
/-! PROOFS. The hazards: stale bytes in front of a reply (O24) and a header out of range that stays at the front of SB
(O42). -/

namespace Sys2Proof.Machine

/-! ## Stale bytes in the text transport (R127, R270) -/

theorem rstripCrlf_isPrefix (raw : Bytes) : rstripCrlf raw <+: raw := ⟨trailerOf raw, rstripCrlf_append_trailerOf raw⟩

theorem takeMax_isPrefix (limit : Option Nat) (bs : Bytes) : takeMax limit bs <+: bs :=
  ⟨dropMax limit bs, takeMax_append_dropMax limit bs⟩

/-- A read, whatever its limit, returns a prefix of the stream, which has no echo when the stream does not begin with the
sentinel. -/
theorem classify_of_stale_front {b : Byte} (stale : b ≠ sentinel) (lit : Bool) (limit : Option Nat) (bs sent : Bytes) :
    classify lit (takeMax limit (b :: bs)) sent = .malformed := by
  refine classify_of_no_echo lit fun echo => stale ?_
  have front : sentinel :: sent <+: b :: bs := (echo.trans (rstripCrlf_isPrefix _)).trans (takeMax_isPrefix limit _)
  exact (List.cons_prefix_cons.mp front).1.symm

/-! ## A header out of range (R178, R179, R182) -/

/-- A PULL with a header at the front of SB comes from LOOP to its test in two steps, without a read. -/
theorem run_to_hdrCheck {s : State} (silent : HostSilent s) (busy : s.busy = true) (ph : s.ph = .loop)
    (wants : s.emitted < s.req) (len : 32 ≤ s.sb.length) : core.run 2 s = .next (setPh .hdrCheck s) := by
  have goesOn : step s = .next (setPh .hdrWait s) :=
    (step_running silent.1 busy).trans (microStep_loop_goes_on ph wants)
  have buffered : step (setPh .hdrWait s) = .next (setPh .hdrCheck s) :=
    (step_running (s := setPh .hdrWait s) silent.1 busy).trans (microStep_header_buffered rfl len)
  exact (run_succ_of_step (M := core) goesOn 1).trans (run_succ_of_step (M := core) buffered 0)

theorem step_out_of_range {s : State} (silent : HostSilent s) (busy : s.busy = true) (ph : s.ph = .hdrCheck)
    (len : 32 ≤ s.sb.length) (pairs : pairsRefused s.params (decodeHeader s.sb) = false)
    (range : (decodeHeader s.sb).channelCount ≤ maxChannel s.chsel) :
    step s = .next (raisePull
      (.channelOutOfRange (maxChannel s.chsel) (decodeHeader s.sb).channelCount (decodeHeader s.sb))
      (setHdr (decodeHeader s.sb) s)) := by
  rw [step_running silent.1 busy, microStep_hdrCheck ph len, decodeHeader_take len]
  exact checkHeader_out_of_range pairs range

/-- The test raises in the third step, and the packet stays where it is. -/
theorem run_out_of_range {s : State} (silent : HostSilent s) (busy : s.busy = true) (ph : s.ph = .loop)
    (wants : s.emitted < s.req) (len : 32 ≤ s.sb.length) (pairs : pairsRefused s.params (decodeHeader s.sb) = false)
    (range : (decodeHeader s.sb).channelCount ≤ maxChannel s.chsel) :
    core.run 3 s = .next (raisePull
      (.channelOutOfRange (maxChannel s.chsel) (decodeHeader s.sb).channelCount (decodeHeader s.sb))
      (setHdr (decodeHeader s.sb) (setPh .hdrCheck s))) := by
  have raises := step_out_of_range (s := setPh .hdrCheck s) silent busy rfl len pairs range
  exact (run_add (run_to_hdrCheck silent busy ph wants len) 1).trans (run_succ_of_step (M := core) raises 0)

end Sys2Proof.Machine

open Sys2Proof Sys2Proof.Machine

/-- Settles O24: the stale byte stands where the echo would begin, so the reply is malformed; CS_C is not written. -/
theorem staleBytesSpoilTheReply : Obligations.StaleBytesSpoilTheReply := by
  intro s cmd fresh stale b ds ts idle up there notSentinel written read
  have spoiled : classify s.params.errLiteralWithSentinel (takeMax s.params.cmdReadMax (s.env.textRx ++ fresh)) cmd =
      .malformed := by
    rw [there]
    exact classify_of_stale_front notSentinel _ _ (stale ++ fresh) cmd
  have result := sendRun_result (s := setBusy true s) cmd written read
  rw [setBusy_params, setBusy_env, spoiled] at result
  refine ⟨_, takeMax s.params.cmdReadMax (s.env.textRx ++ fresh), exec_send idle up cmd, ?_, ?_⟩
  · rw [conclude_results, forgetCmd_env, sendRun_results (s := setBusy true s) up, result]
    rfl
  · rw [conclude_csC, forgetCmd_csC, sendRun_decodes (s := setBusy true s) written read]
    exact up

/-- Settles O42: LOOP, HDR_WAIT on a buffered header, and the HDR_CHECK that raises; none of them writes SB. -/
theorem outOfRangeRepeats : Obligations.OutOfRangeRepeats := by
  intro s n chs _ silent idle up valid ne nodup pos len pairs range
  have ends := run_out_of_range (s := setPh .loop (latchPull n chs (setBusy true s))) silent rfl rfl pos len
    ((pairsRefused_eq_false_iff _ _).mpr pairs) range
  refine ⟨_, _, pullAccept_eq idle up valid ne nodup, ends, ?_, raisePull_busy _ _,
    (raisePull_csD _ _).trans up, (raisePull_sbValid _ _).trans valid, raisePull_sb _ _, ?_⟩
  · rw [raisePull_env]
    rfl
  · rw [raisePull_env]
    rfl

end
